-- ==== Sys2Proof/Word.lean ====
section
/-! DEFINITION. The word types of the PDC (spec 00_scope R7, R10: every value is unsigned). -/

namespace Sys2Proof

/-- A command frame, a response byte or a status register (R7). -/
abbrev Byte := BitVec 8

/-- A host register (R7). -/
abbrev Word := BitVec 32

/-- A command class or a payload (R7, R110). -/
abbrev Nibble := BitVec 4

end Sys2Proof
end

