-- ==== Sys2Proof/Syntax.lean ====
section
/-! DEFINITION. The instructions of the PDC: one constructor per row of spec/opcode_table.json. -/

namespace Sys2Proof

/-- The ten command frames the sequencer sends (30_encoding R112, R113) and the six host operations the
host issues by writing CTRL (30_encoding R116). A host operation keeps the whole ARG byte, because the event
`Host(OP, ARG)` of 44_host_operations R300 records it even where the operation ignores it. -/
inductive Instr where
  /-- NULL0, byte 0x00 (R203). -/
  | null0
  /-- NULL1, byte 0x01 (R204). -/
  | null1
  /-- NULL2, byte 0x02 (R205). -/
  | null2
  /-- NULL3, byte 0x03 (R206). -/
  | null3
  /-- MASK0 #p, byte 0x2p (R207). -/
  | mask0 (p : Nibble)
  /-- MASK1 #p, byte 0x3p (R208). -/
  | mask1 (p : Nibble)
  /-- MODE #p, byte 0x4p, legal with bit 2 of p clear (R209). -/
  | mode (p : Nibble)
  /-- CLINT0 #p, byte 0x6p (R210). -/
  | clint0 (p : Nibble)
  /-- CLINT1 #p, byte 0x7p (R211). -/
  | clint1 (p : Nibble)
  /-- DEADTIME #p, byte 0x8p, legal with p = 0 or 1, the calibrate bit (R212). -/
  | deadtime (p : Nibble)
  /-- NOP, OP = 0, ARG ignored (R303). -/
  | nop (arg : Byte)
  /-- INIT, OP = 1, ARG ignored (R302). -/
  | init (arg : Byte)
  /-- SHUTDOWN, OP = 2, ARG ignored (R304). -/
  | shutdown (arg : Byte)
  /-- SEND b, OP = 3, ARG is the frame (R305). -/
  | send (b : Byte)
  /-- READ_STATUS, OP = 4, `n` is ARG[1:0] and `hi` is ARG[7:2], which must be 0 for the operation to run (R306). -/
  | readStatus (n : BitVec 2) (hi : BitVec 6)
  /-- CLEAR_FAULTS c0, c1, OP = 5, `c0` is ARG[3:0] and `c1` is ARG[7:4] (R307). -/
  | clearFaults (c0 c1 : Nibble)
  deriving DecidableEq, Repr

end Sys2Proof
end

