-- ==== Sys2Proof/WellFormed.lean ====
section
/-! DEFINITION. Which instruction terms an encoding stands for. -/

namespace Sys2Proof

/-- The payloads that are legal for each frame (30_encoding R113, 42_command_codec R202). A host operation has no
illegal term: an operand it does not accept is answered by RESULT, not by the encoding (44_host_operations R305, R306). -/
def Instr.wf : Instr → Bool
  | .mode p => p &&& 0x4#4 == 0#4
  | .deadtime p => p &&& 0xE#4 == 0#4
  | .null0 | .null1 | .null2 | .null3 => true
  | .mask0 _ | .mask1 _ | .clint0 _ | .clint1 _ => true
  | .nop _ | .init _ | .shutdown _ | .send _ | .readStatus _ _ | .clearFaults _ _ => true

end Sys2Proof
end

