-- ==== Sys2Proof/Decode.lean ====
section
/-! DEFINITION. The two encodings: command frames (30_encoding R110 to R115) and CTRL words (R116 to R118). The
decoder first, the encoder and the opcode table after it. -/

namespace Sys2Proof

/-- Why a decoder refuses (30_encoding R117, R118). -/
inductive Reject where
  /-- A frame whose class nibble is 0x1, 0x5 or 0x9 to 0xF. -/
  | reservedClass (b : Byte)
  /-- A NULL byte 0x04 to 0x0F. -/
  | reservedNull (b : Byte)
  /-- A MODE byte with payload bit 2 set. -/
  | reservedMode (b : Byte)
  /-- A DEADTIME byte with a payload above 1. -/
  | reservedDeadtime (b : Byte)
  /-- A CTRL word with OP 6 or 7. -/
  | reservedOp (op : BitVec 3)
  /-- Fewer bytes than the encoding has. -/
  | tooShort
  deriving DecidableEq, Repr

/-- The class nibbles of R112. -/
def opcNull : Nibble := 0x0#4
def opcMask0 : Nibble := 0x2#4
def opcMask1 : Nibble := 0x3#4
def opcMode : Nibble := 0x4#4
def opcClint0 : Nibble := 0x6#4
def opcClint1 : Nibble := 0x7#4
def opcDeadtime : Nibble := 0x8#4

/-- `OPC`, bits [7:4] of a frame (R110). -/
def frameOpc (b : Byte) : Nibble := b.extractLsb' 4 4

/-- `PL`, bits [3:0] of a frame (R110). -/
def framePayload (b : Byte) : Nibble := b.extractLsb' 0 4

/-- A NULL frame's register number in its payload; payloads 4 to 15 are reserved (42_command_codec R201). -/
def decodeNull (b : Byte) : Except Reject Instr :=
  match (framePayload b).toNat with
  | 0 => .ok .null0
  | 1 => .ok .null1
  | 2 => .ok .null2
  | 3 => .ok .null3
  | _ => .error (.reservedNull b)

/-- `DecodeCmd(b)` (42_command_codec R201): total on the 256 bytes. -/
def decodeFrame (b : Byte) : Except Reject Instr :=
  match (frameOpc b).toNat with
  | 0x0 => decodeNull b
  | 0x2 => .ok (.mask0 (framePayload b))
  | 0x3 => .ok (.mask1 (framePayload b))
  | 0x4 => if framePayload b &&& 0x4#4 = 0#4 then .ok (.mode (framePayload b)) else .error (.reservedMode b)
  | 0x6 => .ok (.clint0 (framePayload b))
  | 0x7 => .ok (.clint1 (framePayload b))
  | 0x8 => if framePayload b &&& 0xE#4 = 0#4 then .ok (.deadtime (framePayload b)) else .error (.reservedDeadtime b)
  | _ => .error (.reservedClass b)

/-- `OP`, bits [2:0] of a CTRL word (30_encoding R116). -/
def ctrlOp (w : Word) : BitVec 3 := w.extractLsb' 0 3

/-- `ARG`, bits [15:8] of a CTRL word (R116). -/
def ctrlArg (w : Word) : Byte := w.extractLsb' 8 8

/-- The host operation a CTRL word names (R116); bits [7:3] and [31:16] are ignored. -/
def decodeCtrl (w : Word) : Except Reject Instr :=
  match (ctrlOp w).toNat with
  | 0 => .ok (.nop (ctrlArg w))
  | 1 => .ok (.init (ctrlArg w))
  | 2 => .ok (.shutdown (ctrlArg w))
  | 3 => .ok (.send (ctrlArg w))
  | 4 => .ok (.readStatus ((ctrlArg w).extractLsb' 0 2) ((ctrlArg w).extractLsb' 2 6))
  | 5 => .ok (.clearFaults ((ctrlArg w).extractLsb' 0 4) ((ctrlArg w).extractLsb' 4 4))
  | _ => .error (.reservedOp (ctrlOp w))

/-- One frame from a byte stream: every frame is one byte (R115). -/
def decodeFrameBytes : List Byte → Except Reject (Instr × List Byte)
  | [] => .error .tooShort
  | b :: rest =>
    match decodeFrame b with
    | .ok i => .ok (i, rest)
    | .error r => .error r

/-- A word from its four byte lanes, lane 0 least significant (20_memory R82). -/
def wordOfLanes (b0 b1 b2 b3 : Byte) : Word := b3 ++ b2 ++ b1 ++ b0

/-- One CTRL word from its byte lanes (R82, R116). -/
def decodeCtrlBytes : List Byte → Except Reject (Instr × List Byte)
  | b0 :: b1 :: b2 :: b3 :: rest =>
    match decodeCtrl (wordOfLanes b0 b1 b2 b3) with
    | .ok i => .ok (i, rest)
    | .error r => .error r
  | _ => .error .tooShort

/-- `(OPC << 4) | PL` (R110). -/
def frameOf (opc pl : Nibble) : Byte := opc ++ pl

/-- A CTRL word with its ignored bits 0 (R116). -/
def ctrlOf (op : BitVec 3) (arg : Byte) : Word := 0#16 ++ arg ++ 0#5 ++ op

/-- An encoded instruction: a frame or a CTRL word. -/
inductive Encoded where
  | frame (b : Byte)
  | ctrl (w : Word)
  deriving DecidableEq, Repr

/-- `Encode(cmd, pl)` for the frames (42_command_codec R200) and the CTRL word of a host operation (30_encoding R116). -/
def encode : Instr → Encoded
  | .null0 => .frame (frameOf opcNull 0#4)
  | .null1 => .frame (frameOf opcNull 1#4)
  | .null2 => .frame (frameOf opcNull 2#4)
  | .null3 => .frame (frameOf opcNull 3#4)
  | .mask0 p => .frame (frameOf opcMask0 p)
  | .mask1 p => .frame (frameOf opcMask1 p)
  | .mode p => .frame (frameOf opcMode p)
  | .clint0 p => .frame (frameOf opcClint0 p)
  | .clint1 p => .frame (frameOf opcClint1 p)
  | .deadtime p => .frame (frameOf opcDeadtime p)
  | .nop arg => .ctrl (ctrlOf 0#3 arg)
  | .init arg => .ctrl (ctrlOf 1#3 arg)
  | .shutdown arg => .ctrl (ctrlOf 2#3 arg)
  | .send b => .ctrl (ctrlOf 3#3 b)
  | .readStatus n hi => .ctrl (ctrlOf 4#3 (hi ++ n))
  | .clearFaults c0 c1 => .ctrl (ctrlOf 5#3 (c1 ++ c0))

/-- The decoder of either encoding. -/
def decode : Encoded → Except Reject Instr
  | .frame b => decodeFrame b
  | .ctrl w => decodeCtrl w

/-- The bytes of an encoded instruction as the hardware stores them (R82, R115). -/
def Encoded.bytes : Encoded → List Byte
  | .frame b => [b]
  | .ctrl w => [w.extractLsb' 0 8, w.extractLsb' 8 8, w.extractLsb' 16 8, w.extractLsb' 24 8]

/-- The mask of the instruction's row in spec/opcode_table.json. -/
def Instr.rowMask : Instr → Nat
  | .null0 | .null1 | .null2 | .null3 => 0xFF
  | .mask0 _ | .mask1 _ | .clint0 _ | .clint1 _ => 0xF0
  | .mode _ => 0xF4
  | .deadtime _ => 0xFE
  | .nop _ | .init _ | .shutdown _ | .send _ | .readStatus _ _ | .clearFaults _ _ => 0x7

/-- The match value of the instruction's row in spec/opcode_table.json. -/
def Instr.rowMatch : Instr → Nat
  | .null0 => 0x00
  | .null1 => 0x01
  | .null2 => 0x02
  | .null3 => 0x03
  | .mask0 _ => 0x20
  | .mask1 _ => 0x30
  | .mode _ => 0x40
  | .clint0 _ => 0x60
  | .clint1 _ => 0x70
  | .deadtime _ => 0x80
  | .nop _ => 0
  | .init _ => 1
  | .shutdown _ => 2
  | .send _ => 3
  | .readStatus _ _ => 4
  | .clearFaults _ _ => 5

/-- The bits of an encoded instruction as a number, bit 0 least significant. -/
def Encoded.toNat : Encoded → Nat
  | .frame b => b.toNat
  | .ctrl w => w.toNat

/-- Which of the two encodings a table word of `nbits` bits is in, with the word laid out in it. Up to 8 bits it is a
frame where it is a legal one; a number below 8 that is no frame is a CTRL word whose other bits are 0; above 8 bits it
is a CTRL word (log 15). -/
def tableWord (nbits w : Nat) : Encoded :=
  if nbits ≤ 8 then
    match decodeFrame (BitVec.ofNat 8 w) with
    | .ok _ => .frame (BitVec.ofNat 8 w)
    | .error _ => if w < 8 then .ctrl (BitVec.ofNat 32 w) else .frame (BitVec.ofNat 8 w)
  else .ctrl (BitVec.ofNat 32 w)

/-- What the decoder reads from a table word laid out as the hardware stores it. -/
def decodeTableWord (nbits w : Nat) : Option Instr :=
  match tableWord nbits w with
  | .frame b =>
    match decodeFrameBytes (Encoded.bytes (.frame b)) with
    | .ok (i, _) => some i
    | .error _ => none
  | .ctrl v =>
    match decodeCtrlBytes (Encoded.bytes (.ctrl v)) with
    | .ok (i, _) => some i
    | .error _ => none

end Sys2Proof
end

