-- ==== Sys2Proof/Config.lean ====
section
/-! DEFINITION. What an implementation fixes (00_scope R6) and what the environment chooses freely: the
transport's answers (41_transport_and_lines R176) and the order in which the agents move (20_memory R92). -/

namespace Sys2Proof

/-- The implementation parameters of 00_scope R6, a value of them held in `State.params` and never changed by a step
(10_state R21). The group numbers, which nothing reads, are the opaque constants below. -/
structure Params where
  /-- `T_RST_NS` -/
  tRstNs : Nat
  /-- `T_RST_TO_EN_NS` -/
  tRstToEnNs : Nat
  /-- `T_EN1_TO_EN2_NS` -/
  tEn1ToEn2Ns : Nat
  /-- `T_EN_NS` -/
  tEnNs : Nat
  /-- `T_LS_HOLD_NS` -/
  tLsHoldNs : Nat
  /-- `T_HS_BASE_NS` -/
  tHsBaseNs : Nat
  /-- `T_HS_MARGIN_NS` -/
  tHsMarginNs : Nat
  /-- `DT_MAX_NS` -/
  dtMaxNs : Nat
  /-- `F_DT_HZ` -/
  fDtHz : Nat
  /-- `CAL_FACTOR` -/
  calFactor : Nat
  /-- `BUSY_RETRY_MAX` -/
  busyRetryMax : Nat
  /-- `T_BACKOFF_NS` -/
  tBackoffNs : Nat
  /-- `WAIT_STEP_CYCLES` -/
  waitStepCycles : Nat
  /-- `SPI_BAUD_RESET_HZ` -/
  spiBaudResetHz : BitVec 32
  /-- `DT_RESET_NS` -/
  dtResetNs : BitVec 16
  /-- `RST_ACTIVE_LOW` -/
  rstActiveLow : Bool
  /-- `MODE_BIT_LOCK` -/
  modeBitLock : Nat
  /-- `MODE_BIT_FULL` -/
  modeBitFull : Nat
  /-- `MODE_BIT_DESATF` -/
  modeBitDesatf : Nat
  /-- `BASE_ADDR`, OPEN in the spec (D2) -/
  baseAddr : Nat
  deriving DecidableEq, Repr

/-- The defaults of 00_scope R6. DESIGN CHOICE (log 4): BASE_ADDR is OPEN and is 0 here; no statement rests on it. -/
def Params.default : Params where
  tRstNs := 2500000
  tRstToEnNs := 0
  tEn1ToEn2Ns := 0
  tEnNs := 1000
  tLsHoldNs := 1000
  tHsBaseNs := 16000
  tHsMarginNs := 100
  dtMaxNs := 15000
  fDtHz := 17000000
  calFactor := 16
  busyRetryMax := 3
  tBackoffNs := 10000
  waitStepCycles := 4
  spiBaudResetHz := 2000000#32
  dtResetNs := 500#16
  rstActiveLow := true
  modeBitLock := 0
  modeBitFull := 1
  modeBitDesatf := 3
  baseAddr := 0

/-- A MODE flag's bit is a payload bit other than the reserved bit 2 (30_encoding R113, 93 G1). -/
def Params.modeBitOk (b : Nat) : Bool := b == 0 || b == 1 || b == 3

/-- The limits the spec puts on the parameters: at least one Busy retry (00_scope R6), a delay unit that counts, and
three distinct MODE bits away from bit 2 (93 G1). -/
def Params.wf (p : Params) : Bool :=
  decide (1 ≤ p.busyRetryMax) && decide (1 ≤ p.waitStepCycles) &&
  Params.modeBitOk p.modeBitLock && Params.modeBitOk p.modeBitFull && Params.modeBitOk p.modeBitDesatf &&
  p.modeBitLock != p.modeBitFull && p.modeBitLock != p.modeBitDesatf && p.modeBitFull != p.modeBitDesatf

/-- A transport result (41_transport_and_lines R176). -/
inductive XferResult where
  | success | busy | error | invalidArgument | timeout
  deriving DecidableEq, Repr, Inhabited

/-- What the transport answers to one request: a result and a byte (R174, R176). -/
structure Answer where
  res : XferResult
  rx : Byte
  deriving DecidableEq, Repr, Inhabited

/-- One host bus access at an absolute byte address, of `width` bytes (20_memory R80, R81). -/
inductive HostAccess where
  | read (addr width : Nat)
  | write (addr width : Nat) (v : Word)
  deriving DecidableEq, Repr, Inhabited

/-- One move of one agent (00_scope R3, 20_memory R91). -/
inductive Move where
  /-- Time: `dt` ns pass. -/
  | advance (dt : Nat)
  /-- The block clock makes one cycle (40_wait_service R153). -/
  | clock
  /-- The platform drives the input `sysclk_hz` (10_state R35). -/
  | sysclk (hz : BitVec 32)
  /-- The platform drives the input `pinmap_ok` (10_state R35). -/
  | pinmap (ok : Bool)
  /-- The platform drives the input `rst_n` (70_reset_and_hazards R380). -/
  | rst (level : Bool)
  /-- The host makes one access. -/
  | host (a : HostAccess)
  /-- The host's last access is behind it: it makes no more (70_reset_and_hazards R397, log 29). -/
  | hostEnds
  /-- The sequencer takes its step, if it has one that is enabled (43_bringup_fsm R250). -/
  | seq
  deriving DecidableEq, Repr, Inhabited

/-- FREE VALUE (log 1): the `k`-th move drawn once `State.env.moves` is used up. No body: every order of the agents'
moves is possible (20_memory R92). -/
opaque Config.freeMove : Nat → Move

/-- FREE VALUE (log 2): the transport's answer to the `k`-th draw, for a request of this byte at this baud rate, once
`State.env.answers` is used up. No body: "Nothing in the PDC constrains the choice" (41_transport_and_lines R176). -/
opaque Config.freeAnswer : Nat → Byte → Word → Answer

/-- `GROUP_SPI`, OPEN (60_exceptions R342, log 5). -/
opaque Config.groupSpi : Nat
/-- `GROUP_GPIO`, OPEN (R342, log 5). -/
opaque Config.groupGpio : Nat
/-- `GROUP_PREDRV`, OPEN (R342, log 5). -/
opaque Config.groupPredrv : Nat

/-- A group-band code, `(group × 100) + code` (60_exceptions R342). The PDC never emits one. -/
def Config.groupBandCode (group code : Nat) : Nat := group * 100 + code

end Sys2Proof
end

