-- ==== Sys2Proof/Machine/State.lean ====
section
/-! DEFINITION. The state of the PDC as plain data (10_state R20 to R44), the environment held beside it, the
reasons a step can stop, and the state after block reset. -/

namespace Sys2Proof.Machine

/-- `STAT.STATE`, the eight bring-up states (10_state R25). -/
inductive PdcState where
  | poweredOff | resetAsserted | resetReleased | lowSideToggling | highSideToggling | configuring | active | faulted
  deriving DecidableEq, Repr

/-- `STAT.PREV_REQ`, what the next received byte holds (10_state R26). -/
inductive Req where
  | noReq | s0 | s1 | s2 | s3 | unknown
  deriving DecidableEq, Repr

/-- The status codes of `RESULT.CODE` (60_exceptions R340). -/
inductive StatusCode where
  | success | fail | readOnly | outOfRange | invalidArgument | timeout | noTransferInProgress
  deriving DecidableEq, Repr

/-- `OPKIND` (10_state R38). -/
inductive OpKind where
  | bringup | hostop
  deriving DecidableEq, Repr

/-- `SPC`, the sequencer step to run next (10_state R36). -/
inductive Label where
  | idle
  | xSel | xXfer | xUnsel | xResult | xBackoff | xNext
  | bRstAssert | bRstWait | bEn1 | bEn2 | bEnWait | bLsHold | bHsHold | bCalSel | bCalHold | bDone
  | hDone
  deriving DecidableEq, Repr

/-- The output lines of `line(L) <- level` (41_transport_and_lines R170). -/
inductive Line where
  | rst | en1 | en2 | cs | ls | hs
  deriving DecidableEq, Repr

/-- The events of the trace (20_memory R97). -/
inductive Event where
  | line (l : Line) (level : Bool)
  | frame (tx : Byte) (res : XferResult) (rx : Byte)
  | state (st : PdcState)
  | done (code : StatusCode)
  | host (op : BitVec 3) (arg : Byte)
  deriving DecidableEq, Repr

/-- The fields of `STAT` (10_state R24). -/
structure Stat where
  state : PdcState
  busy : Bool
  cmdLost : Bool
  faultAt : PdcState
  cfgStep : BitVec 2
  prevReq : Req
  snapValid : BitVec 4
  retries : BitVec 4
  deriving DecidableEq, Repr

/-- The status register file `STATUS[0..3]` (10_state R39). -/
structure StatusFile where
  r0 : Byte
  r1 : Byte
  r2 : Byte
  r3 : Byte
  deriving DecidableEq, Repr

/-- The fields of `LASTXFER` (10_state R32). -/
structure LastXfer where
  tx : Byte
  rx : Byte
  res : XferResult
  valid : Bool
  deriving DecidableEq, Repr

/-- The line-state bits (10_state R33, R34, R40). -/
structure Lines where
  rstAsserted : Bool
  en1 : Bool
  en2 : Bool
  csSel : Bool
  ls : Bool
  hs : Bool
  deriving DecidableEq, Repr

/-- The hidden sequencer state (10_state R36 to R38) and the delay unit's counter (40_wait_service R150, R153, log 7). -/
structure Seq where
  spc : Label
  waitStart : Nat
  waitD : Nat
  /-- The delay unit's down-counter. -/
  waitCount : Nat
  /-- Block-clock cycles since the counter's last decrement or load. -/
  waitPhase : Nat
  opList : List Byte
  opIdx : Nat
  attempt : Nat
  opKind : OpKind
  lastRes : XferResult
  deriving DecidableEq, Repr

/-- The environment, which the spec does not count as PDC state (10_state R21): the MODEL'S OWN fields (log 1, log 2, log 8,
log 29). -/
structure Env where
  /-- The current time in ns (40_wait_service R150). -/
  now : Nat
  /-- The input `sysclk_hz` (10_state R35). -/
  sysclkHz : BitVec 32
  /-- The input `pinmap_ok` (10_state R35). -/
  pinmapOk : Bool
  /-- The input `rst_n` (70_reset_and_hazards R380). -/
  rstN : Bool
  /-- Whether the host's last access is behind it (70_reset_and_hazards R397). -/
  hostEnded : Bool
  /-- The agents' coming moves, the next one first. -/
  moves : List Move
  /-- The transport's coming answers, the next one first. -/
  answers : List Answer
  /-- How many free values have been drawn. -/
  draws : Nat
  deriving DecidableEq, Repr

/-- What the host's bus got back from its last access (20_memory R80, R83): the MODEL'S OWN field (log 17). -/
inductive BusResp where
  | noneYet
  | data (v : Word)
  | written
  | error
  deriving DecidableEq, Repr

/-- Where a host access goes (20_memory R80, R81, R83). -/
inductive BusTarget where
  | outside
  | error
  | read (off : Nat)
  | write (off : Nat) (v : Word)
  deriving DecidableEq, Repr

/-- One field of status register 0 (42_command_codec R216). -/
structure FaultFlags where
  overTemperature : Bool
  desaturation : Bool
  underVoltage : Bool
  overCurrent : Bool
  phaseError : Bool
  frameError : Bool
  writeError : Bool
  resetDetected : Bool
  deriving DecidableEq, Repr

/-- What `DecodeStatus` returns (42_command_codec R216, R217). -/
inductive StatusView where
  | flags (f : FaultFlags)
  | opaqueByte (b : Byte)
  deriving DecidableEq, Repr

/-- Why the machine stops with a fault. The PDC's own failures (`raise Fault`, a bus error) are next states, not these. -/
inductive Fault where
  /-- Raised by the transfer step (label X_XFER) where OPLIST has no frame at OPIDX. No run from reset reaches it
  (43_bringup_fsm R253 keeps OPIDX below the length of OPLIST there). Safe: the model stops. -/
  | noFrame
  deriving DecidableEq, Repr

/-- Why the machine has no meaning for a step. -/
inductive Refusal where
  /-- Raised by exec's arm of an instruction that has no meaning yet. Safe: the model stops. -/
  | notModelled (mnemonic : String)
  /-- Raised by the transfer step where the frame at OPIDX is a reserved byte: "the sequencer never presents any other
  frame" (20_memory R84, 93 U3), so no run from reset reaches it. Safe: the model stops. -/
  | reservedFrame (b : Byte)
  deriving DecidableEq, Repr

/-- The state of the PDC and its environment. -/
structure State where
  stat : Stat
  result : StatusCode
  /-- `CFG0` whole (10_state R28); its fields are read by the accessors of Machine/Operands.lean. -/
  cfg0 : Word
  /-- `CFG1`, SPI_BAUD_HZ (10_state R29). -/
  cfg1 : Word
  status : StatusFile
  lastXfer : LastXfer
  lines : Lines
  seq : Seq
  /-- The event trace, oldest first, each event with its time (20_memory R97). -/
  trace : List (Nat × Event)
  bus : BusResp
  env : Env
  /-- The parameters of 00_scope R6, carried unchanged (log 3). -/
  params : Params
  deriving DecidableEq, Repr

/-- `STAT` at block reset (10_state R44). -/
def Stat.reset : Stat where
  state := .poweredOff
  busy := false
  cmdLost := false
  faultAt := .poweredOff
  cfgStep := 0#2
  prevReq := .noReq
  snapValid := 0#4
  retries := 0#4

/-- `STATUS[0..3]` at block reset (10_state R44). -/
def StatusFile.reset : StatusFile := ⟨0#8, 0#8, 0#8, 0#8⟩

/-- `LASTXFER` at block reset, 0 (10_state R32, R44). -/
def LastXfer.reset : LastXfer := ⟨0#8, 0#8, .success, false⟩

/-- The lines at block reset (10_state R44). -/
def Lines.reset : Lines where
  rstAsserted := true
  en1 := false
  en2 := false
  csSel := false
  ls := false
  hs := false

/-- The hidden state at block reset (10_state R44). DESIGN CHOICE (log 6, log 7): WAIT_START, WAIT_D and the delay
unit's counter have no reset value in the spec and are 0 here. -/
def Seq.reset : Seq where
  spc := .idle
  waitStart := 0
  waitD := 0
  waitCount := 0
  waitPhase := 0
  opList := []
  opIdx := 0
  attempt := 0
  opKind := .hostop
  lastRes := .success

/-- The environment at the start of a run: time 0 (70_reset_and_hazards R380). DESIGN CHOICE (log 8): the inputs have
no value in the spec; no moves or answers are planned (log 1, log 2), and the host may still make accesses (log 29). -/
def Env.start : Env where
  now := 0
  sysclkHz := 80000000#32
  pinmapOk := true
  rstN := true
  hostEnded := false
  moves := []
  answers := []
  draws := 0

/-- Every PDC register at its block-reset value (10_state R44) over a given trace, bus answer, environment and parameters. -/
def State.atReset (trace : List (Nat × Event)) (bus : BusResp) (env : Env) (params : Params) : State where
  stat := Stat.reset
  result := .success
  cfg0 := params.dtResetNs ++ 0#16
  cfg1 := params.spiBaudResetHz
  status := StatusFile.reset
  lastXfer := LastXfer.reset
  lines := Lines.reset
  seq := Seq.reset
  trace := trace
  bus := bus
  env := env
  params := params

/-- The machine right after block reset, at time 0 with an empty trace (70_reset_and_hazards R380). -/
def State.reset : State := State.atReset [] .noneYet Env.start Params.default

end Sys2Proof.Machine
end

