-- ==== Sys2Proof/Machine/Operands.lean ====
section
/-! DEFINITION. The fields of CFG0, the numbers of the named codes, the payloads and frame lists the sequencer
builds (30_encoding R114, 43_bringup_fsm R263), and the durations it waits for (40_wait_service R157). -/

namespace Sys2Proof.Machine

/-! ### The fields of CFG0 (10_state R28) -/

/-- `MASK0`, bits [3:0]. -/
def cfgMask0 (c : Word) : Nibble := c.extractLsb' 0 4
/-- `MASK1`, bits [7:4]. -/
def cfgMask1 (c : Word) : Nibble := c.extractLsb' 4 4
/-- `LOCK`, bit 8. -/
def cfgLock (c : Word) : Bool := c.getLsbD 8
/-- `FULL`, bit 9. -/
def cfgFull (c : Word) : Bool := c.getLsbD 9
/-- `DESATF`, bit 10. -/
def cfgDesatf (c : Word) : Bool := c.getLsbD 10
/-- `CS_POL`, bit 11: false is `ActiveLow`, true is `ActiveHigh`. -/
def cfgCsPol (c : Word) : Bool := c.getLsbD 11
/-- `DEADTIME_NS`, bits [31:16]. -/
def cfgDeadtime (c : Word) : BitVec 16 := c.extractLsb' 16 16
/-- What a CFG0 write stores of the written word: bits [15:12] are reserved (44_host_operations R310). -/
def cfg0Stored (v : Word) : Word := v &&& 0xFFFF0FFF#32

/-! ### The numbers of the named codes -/

/-- `code(s)` of a bring-up state (10_state R25). -/
def stateCode : PdcState → BitVec 3
  | .poweredOff => 0#3
  | .resetAsserted => 1#3
  | .resetReleased => 2#3
  | .lowSideToggling => 3#3
  | .highSideToggling => 4#3
  | .configuring => 5#3
  | .active => 6#3
  | .faulted => 7#3

/-- The number of a PREV_REQ value (10_state R26). -/
def reqCode : Req → BitVec 3
  | .noReq => 0#3
  | .s0 => 1#3
  | .s1 => 2#3
  | .s2 => 3#3
  | .s3 => 4#3
  | .unknown => 5#3

/-- The number of a status code (60_exceptions R340). -/
def statusCodeNum : StatusCode → BitVec 16
  | .success => 0#16
  | .fail => 1#16
  | .readOnly => 2#16
  | .outOfRange => 3#16
  | .invalidArgument => 4#16
  | .timeout => 5#16
  | .noTransferInProgress => 6#16

/-- The number of a transport result in LASTXFER.RES (41_transport_and_lines R175). -/
def resCode : XferResult → BitVec 3
  | .success => 0#3
  | .busy => 1#3
  | .error => 2#3
  | .invalidArgument => 3#3
  | .timeout => 4#3

/-! ### Payloads and frames -/

/-- A flag as a payload with only bit 0 possibly set. -/
def flagNibble (b : Bool) : Nibble := (BitVec.ofBool b).setWidth 4

/-- `ModePayload(CFG0)` (30_encoding R114, 42_command_codec R209). -/
def modePayload (p : Params) (c : Word) : Nibble :=
  (flagNibble (cfgDesatf c) <<< p.modeBitDesatf) ||| (flagNibble (cfgFull c) <<< p.modeBitFull) |||
    (flagNibble (cfgLock c) <<< p.modeBitLock)

/-- The calibrate payload of DEADTIME: 1 where a dead time is configured (R114, R212). -/
def calPayload (c : Word) : Nibble := if cfgDeadtime c = 0#16 then 0#4 else 1#4

/-- `CfgFrames()` (43_bringup_fsm R263). -/
def cfgFrames (p : Params) (c : Word) : List Byte :=
  [frameOf opcMask0 (cfgMask0 c), frameOf opcMask1 (cfgMask1 c),
   frameOf opcMode (modePayload p c), frameOf opcDeadtime (calPayload c)]

/-- The two frames of READ_STATUS n (44_host_operations R306). -/
def readStatusFrames (n : BitVec 2) : List Byte := [frameOf opcNull (n.setWidth 4), frameOf opcNull 0#4]

/-- The two frames of CLEAR_FAULTS c0, c1 (44_host_operations R307). -/
def clearFaultsFrames (c0 c1 : Nibble) : List Byte := [frameOf opcClint0 c0, frameOf opcClint1 c1]

/-- Whether SEND accepts a frame: NULL0 to NULL3, CLINT0 and CLINT1 only (44_host_operations R305). -/
def sendAccepts (b : Byte) : Bool :=
  match decodeFrame b with
  | .ok .null0 | .ok .null1 | .ok .null2 | .ok .null3 => true
  | .ok (.clint0 _) | .ok (.clint1 _) => true
  | _ => false

/-! ### Durations -/

/-- `T_HS(dt)` (43_bringup_fsm R261). -/
def tHs (p : Params) (dt : Nat) : Nat := max p.tHsBaseNs (dt + p.tHsMarginNs)

/-- The duration `await elapsed(d)` at the head of a label waits for, none where the label has no wait
(40_wait_service R157, 43_bringup_fsm R250). -/
def waitOf (p : Params) (c : Word) : Label → Option Nat
  | .bRstWait => some p.tRstNs
  | .bEn1 => some p.tRstToEnNs
  | .bEn2 => some p.tEn1ToEn2Ns
  | .bEnWait => some p.tEnNs
  | .bLsHold => some p.tLsHoldNs
  | .bHsHold => some (tHs p (cfgDeadtime c).toNat)
  | .xBackoff => some p.tBackoffNs
  | .bCalHold => some (p.calFactor * (cfgDeadtime c).toNat)
  | .idle | .xSel | .xXfer | .xUnsel | .xResult | .xNext => none
  | .bRstAssert | .bCalSel | .bDone | .hDone => none

end Sys2Proof.Machine
end

