-- ==== Sys2Proof/Machine/Flags.lean ====
section
/-! DEFINITION. The computations of the STAT flags and of the read-only views: RETRIES, SNAPVALID, PREV_REQ,
CMD_LOST, the words STAT, LASTXFER and SNAP, and the fields of the status registers. -/

namespace Sys2Proof.Machine

/-- `min(15, RETRIES + 1)` (41_transport_and_lines R174). -/
def retriesNext (r : BitVec 4) : BitVec 4 := BitVec.ofNat 4 (min 15 (r.toNat + 1))

/-- `SNAPVALID[k] <- 1` (42_command_codec R214). -/
def snapValidSet (k : Fin 4) (v : BitVec 4) : BitVec 4 := v ||| (1#4 <<< k.val)

/-- `CMD_LOST and not v[4]` (10_state R24). -/
def cmdLostAfter (lost : Bool) (v : Word) : Bool := lost && !v.getLsbD 4

/-- `Req(tx)`: the register a frame requests for the next frame (42_command_codec R215). That a non-NULL frame
requests register 0 is the spec's decision D19. -/
def reqOf (tx : Byte) : Req :=
  match tx.toNat with
  | 0x01 => .s1
  | 0x02 => .s2
  | 0x03 => .s3
  | _ => .s0

/-- The register the next received byte belongs to, none where it is discarded (42_command_codec R214). -/
def reqIndex : Req → Option (Fin 4)
  | .s0 => some 0
  | .s1 => some 1
  | .s2 => some 2
  | .s3 => some 3
  | .noReq | .unknown => none

/-- `STATUS[k]`. -/
def statusGet (k : Fin 4) (f : StatusFile) : Byte :=
  match k with
  | 0 => f.r0
  | 1 => f.r1
  | 2 => f.r2
  | 3 => f.r3

/-- `STATUS[k] <- b`. -/
def statusSet (k : Fin 4) (b : Byte) (f : StatusFile) : StatusFile :=
  match k with
  | 0 => { f with r0 := b }
  | 1 => { f with r1 := b }
  | 2 => { f with r2 := b }
  | 3 => { f with r3 := b }

/-- The word a read of STAT returns (10_state R24). -/
def statWord (st : Stat) : Word :=
  0#4 ++ st.retries ++ st.snapValid ++ 0#1 ++ reqCode st.prevReq ++ 0#2 ++ st.cfgStep ++ 0#1 ++
    stateCode st.faultAt ++ 0#3 ++ BitVec.ofBool st.cmdLost ++ BitVec.ofBool st.busy ++ stateCode st.state

/-- The word a read of RESULT returns (10_state R27). -/
def resultWord (c : StatusCode) : Word := 0#16 ++ statusCodeNum c

/-- The word a read of SNAP returns (10_state R30). -/
def snapWord (f : StatusFile) : Word := f.r3 ++ f.r2 ++ f.r1 ++ f.r0

/-- The word a read of LASTXFER returns (10_state R32). -/
def lastXferWord (x : LastXfer) : Word := 0#12 ++ BitVec.ofBool x.valid ++ resCode x.res ++ x.rx ++ x.tx

/-- `DecodeStatus(k, b)` (42_command_codec R216, R217). -/
def decodeStatus (k : Fin 4) (b : Byte) : StatusView :=
  if k = 0 then
    .flags { overTemperature := b.getLsbD 0, desaturation := b.getLsbD 1,
             underVoltage := b.getLsbD 2, overCurrent := b.getLsbD 3,
             phaseError := b.getLsbD 4, frameError := b.getLsbD 5,
             writeError := b.getLsbD 6, resetDetected := b.getLsbD 7 }
  else .opaqueByte b

end Sys2Proof.Machine
end

