-- ==== Sys2Proof/Machine/Delay.lean ====
section
/-! DEFINITION. The delay unit (40_wait_service): the cycle count it is loaded with, the counter's own motion, and
the source's unit-specific services. -/

namespace Sys2Proof.Machine

/-- `ceil(a / b)` on naturals. -/
def ceilDiv (a b : Nat) : Nat := (a + (b - 1)) / b

/-- `WaitCycles(f, d)` (40_wait_service R151) for a delay unit that counts in steps of `step` cycles
(`WAIT_STEP_CYCLES`, 4 in R151). -/
def waitCyclesOf (step f d : Nat) : Nat := max (step * ceilDiv (ceilDiv (f * d) 1000000000) step) step

/-- `WaitCycles(f, d)` with the step of R151. -/
def waitCycles (f d : Nat) : Nat := waitCyclesOf 4 f d

/-- What the counter is loaded with, `WaitCycles(f, d) / 4` (R153). -/
def counterLoad (step f d : Nat) : Nat := waitCyclesOf step f d / step

/-- `await elapsed(d)` is reached: WAIT_START and WAIT_D are recorded, `sysclk_hz` is sampled and the counter loaded
(R150, R152, R153). -/
def beginWait (d : Nat) (s : State) : State :=
  { s with
    seq.waitStart := s.env.now
    seq.waitD := d
    seq.waitCount := counterLoad s.params.waitStepCycles s.env.sysclkHz.toNat d
    seq.waitPhase := 0 }

/-- `now ≥ WAIT_START + WAIT_D` (R150). -/
def waitElapsed (s : State) : Bool := decide (s.seq.waitStart + s.seq.waitD ≤ s.env.now)

/-- One block-clock cycle: the counter goes down by 1 every `WAIT_STEP_CYCLES` cycles and stays at 0 (R153). Which step
is enabled depends on time alone (R150), not on the counter (log 7). -/
def delayTick (s : State) : State :=
  if s.seq.waitCount = 0 then s
  else if s.seq.waitPhase + 1 < s.params.waitStepCycles then { s with seq.waitPhase := s.seq.waitPhase + 1 }
  else { s with seq.waitPhase := 0, seq.waitCount := s.seq.waitCount - 1 }

/-- `WaitMicroseconds(us)` as a list of `await elapsed` durations (R155). -/
def waitMicroseconds (us : Nat) : List Nat := [us * 1000]

/-- `WaitMilliseconds(ms)` (R155). -/
def waitMilliseconds (ms : Nat) : List Nat := [ms * 1000000]

/-- The ns form of the services (R155). -/
def waitNanoseconds (ns : Nat) : List Nat := [ns]

/-- `WaitSeconds(s)` for `s = num / den` seconds: `round_down(s × 1000)` waits of 1 ms (R156, log 20). -/
def waitSeconds (num den : Nat) : List Nat := List.replicate (num * 1000 / den) 1000000

end Sys2Proof.Machine
end

