-- ==== Sys2Proof/Machine/Ops.lean ====
section
/-! DEFINITION. The named operations over the registers: events, lines, the state field, the end of an operation,
taking a fault, the safe lines, waits, and block reset. -/

namespace Sys2Proof.Machine

/-- Records an event with the current time (20_memory R97). -/
def record (e : Event) (s : State) : State := { s with trace := s.trace ++ [(s.env.now, e)] }

/-- Writes the state bit of a line. -/
def setLine (l : Line) (level : Bool) (b : Lines) : Lines :=
  match l with
  | .rst => { b with rstAsserted := level }
  | .en1 => { b with en1 := level }
  | .en2 => { b with en2 := level }
  | .cs => { b with csSel := level }
  | .ls => { b with ls := level }
  | .hs => { b with hs := level }

/-- `line(L) <- level` (41_transport_and_lines R170). The event is recorded even when the bit had that value. -/
def line (l : Line) (level : Bool) (s : State) : State :=
  record (.line l level) { s with lines := setLine l level s.lines }

/-- `SelectDevice` (R171). -/
def selectDevice (s : State) : State := line .cs true s

/-- `UnselectDevice` (R172). -/
def unselectDevice (s : State) : State := line .cs false s

/-- `setState(s)` (43_bringup_fsm R252). -/
def setState (st : PdcState) (s : State) : State := record (.state st) { s with stat.state := st }

/-- `finish(code)` (43_bringup_fsm R251). -/
def finish (code : StatusCode) (s : State) : State :=
  record (.done code) { s with result := code, stat.busy := false, seq.spc := .idle }

/-- "if CS_SEL = 1 then line(CS) <- 0" (60_exceptions R343). -/
def deselectIfSelected (s : State) : State := if s.lines.csSel then unselectDevice s else s

/-- `raise Fault(code)`, the PDC's trap entry (60_exceptions R343). Its ways out are INIT and SHUTDOWN (R344). -/
def raiseFault (code : StatusCode) (s : State) : State :=
  finish code (setState .faulted (deselectIfSelected { s with stat.faultAt := s.stat.state }))

/-- All lines driven inactive, in the order B_RST_ASSERT and SHUTDOWN share (43_bringup_fsm R255, 44_host_operations R304). -/
def driveInactive (s : State) : State :=
  line .hs false (line .ls false (line .cs false (line .en2 false (line .en1 false (line .rst true s)))))

/-- `PREV_REQ <- None ; SNAPVALID <- 0`: the device is being reset (R255, R304). -/
def forgetDevice (s : State) : State := { s with stat.prevReq := .noReq, stat.snapValid := 0#4 }

/-- `SPC <- label`; where the label begins with a wait, the wait starts now (43_bringup_fsm R250). -/
def goto (l : Label) (s : State) : State :=
  match waitOf s.params s.cfg0 l with
  | some d => beginWait d { s with seq.spc := l }
  | none => { s with seq.spc := l }

/-- `OPLIST <- frames ; OPIDX <- 0 ; ATTEMPT <- 0 ; OPKIND <- kind ; SPC <- X_SEL` (43_bringup_fsm R262,
44_host_operations R305 to R307). -/
def startFrames (frames : List Byte) (kind : OpKind) (s : State) : State :=
  goto .xSel { s with seq.opList := frames, seq.opIdx := 0, seq.attempt := 0, seq.opKind := kind }

/-- A host write is dropped because BUSY = 1 (44_host_operations R301, R310). -/
def loseCommand (s : State) : State := { s with stat.cmdLost := true }

/-- A write to CTRL: dropped while BUSY = 1 (R301); else the event `Host(OP, ARG)` and then the operation's own
host-write part (R300). -/
def acceptCtrl (op : BitVec 3) (arg : Byte) (body : State → State) (s : State) : State :=
  if s.stat.busy then loseCommand s else body (record (.host op arg) s)

/-- An operation of the active state: `Fail` outside `Active` (44_host_operations R305 to R307). -/
def onlyActive (body : State → State) (s : State) : State :=
  if s.stat.state = .active then body s else finish .fail s

/-- BUSY <- 1 and the frames of a host operation are started (R305 to R307). -/
def startHostFrames (frames : List Byte) (s : State) : State :=
  startFrames frames .hostop { s with stat.busy := true }

/-- `rst_n` goes low: every piece of PDC state takes its reset value (70_reset_and_hazards R380, 10_state R44). Time,
inputs, trace and the environment's plans are not PDC state and stay (log 14). -/
def blockReset (s : State) : State :=
  State.atReset s.trace s.bus { s.env with rstN := false } s.params

/-! ### The pins (10_state R33, R34) -/

/-- `rst_o` = RST_ASSERTED xor RST_ACTIVE_LOW. -/
def rstO (s : State) : Bool := xor s.lines.rstAsserted s.params.rstActiveLow
/-- `en1_o`. -/
def en1O (s : State) : Bool := s.lines.en1
/-- `en2_o`. -/
def en2O (s : State) : Bool := s.lines.en2
/-- `cs_o` = CS_SEL xor (CS_POL = 0). -/
def csO (s : State) : Bool := xor s.lines.csSel (!cfgCsPol s.cfg0)
/-- A group of three lines at one level (R34). -/
def groupO (level : Bool) : BitVec 3 := BitVec.ofBool level ++ BitVec.ofBool level ++ BitVec.ofBool level
/-- `ls_o[2:0]`. -/
def lsO (s : State) : BitVec 3 := groupO s.lines.ls
/-- `hs_o[2:0]`. -/
def hsO (s : State) : BitVec 3 := groupO s.lines.hs

end Sys2Proof.Machine
end

