-- ==== Sys2Proof/Machine/Codec.lean ====
section
/-! DEFINITION. The transfer (41_transport_and_lines R174 to R176), the status pipeline (42_command_codec R214,
R215) and the dead-time code (R218, R219). -/

namespace Sys2Proof.Machine

/-- The transport's answer to a request: the next planned answer, or a free value (R176, log 2). -/
def nextAnswer (tx : Byte) (s : State) : Answer :=
  match s.env.answers with
  | a :: _ => a
  | [] => Config.freeAnswer s.env.draws tx s.cfg1

/-- The answer is used up. -/
def takeAnswer (s : State) : State :=
  match s.env.answers with
  | _ :: rest => { s with env.answers := rest }
  | [] => { s with env.draws := s.env.draws + 1 }

/-- The received byte goes to the register the previous frame requested, or is discarded (R214). -/
def latchStatus (rx : Byte) (s : State) : State :=
  match reqIndex s.stat.prevReq with
  | some k => { s with status := statusSet k rx s.status, stat.snapValid := snapValidSet k s.stat.snapValid }
  | none => s

/-- `CodecLatch(tx, rx)` (42_command_codec R214). -/
def codecLatch (tx rx : Byte) (s : State) : State :=
  let latched := latchStatus rx s
  { latched with stat.prevReq := reqOf tx }

/-- What LASTXFER becomes (41_transport_and_lines R175). -/
def lastXferOf (tx : Byte) (a : Answer) : LastXfer :=
  { tx := tx, rx := if a.res = .success then a.rx else 0#8, res := a.res, valid := true }

/-- What a transfer's result does to the pipeline: the latch on `Success`, else `PREV_REQ <- Unknown` (R174, R215). -/
def pipelineAfter (tx : Byte) (a : Answer) (s : State) : State :=
  if a.res = .success then codecLatch tx a.rx s else { s with stat.prevReq := .unknown }

/-- `if res = Busy then RETRIES <- min(15, RETRIES + 1)` (R174). -/
def countBusy (res : XferResult) (s : State) : State :=
  if res = .busy then { s with stat.retries := retriesNext s.stat.retries } else s

/-- `Transfer(tx)` with the answer `a` (41_transport_and_lines R174). -/
def transferWith (tx : Byte) (a : Answer) (s : State) : State :=
  countBusy a.res (pipelineAfter tx a { record (.frame tx a.res a.rx) s with lastXfer := lastXferOf tx a })

/-- The step X_XFER with the frame `tx`: `LASTRES <- Transfer(tx) ; SPC <- X_UNSEL` (43_bringup_fsm R253). -/
def sendFrame (tx : Byte) (s : State) : State :=
  let a := nextAnswer tx s
  let done := transferWith tx a (takeAnswer s)
  goto .xUnsel { done with seq.lastRes := a.res }

/-- `DtEncode(t)` (42_command_codec R218), the nearest tick count at `F_DT_HZ`, halves up, at most 255; at 17 MHz it is
`min(255, (17 t + 500) / 1000)`. -/
def dtEncode (fDtHz t : Nat) : Nat := min 255 ((t * fDtHz + 500000000) / 1000000000)

/-- `DtDecode(c)` in ns, exact (R219); at 17 MHz it is `c × 1000 / 17`. -/
def dtDecode (fDtHz c : Nat) : Rat := (c : Rat) * 1000000000 / (fDtHz : Rat)

end Sys2Proof.Machine
end

