-- ==== Sys2Proof/Machine/Frames.lean ====
section
/-! DEFINITION. The meanings of the ten command frames (42_command_codec R203 to R212): each is the transfer step
X_XFER with that frame, inside the bracket that the sequencer's steps X_SEL and X_UNSEL make (43_bringup_fsm R253, log 10). -/

namespace Sys2Proof.Machine

/-- R203 -/
def execNull0 (s : State) : Host.Outcome State Fault Refusal := .next (sendFrame (frameOf opcNull 0#4) s)
/-- R204 -/
def execNull1 (s : State) : Host.Outcome State Fault Refusal := .next (sendFrame (frameOf opcNull 1#4) s)
/-- R205 -/
def execNull2 (s : State) : Host.Outcome State Fault Refusal := .next (sendFrame (frameOf opcNull 2#4) s)
/-- R206 -/
def execNull3 (s : State) : Host.Outcome State Fault Refusal := .next (sendFrame (frameOf opcNull 3#4) s)
/-- R207 -/
def execMask0 (p : Nibble) (s : State) : Host.Outcome State Fault Refusal := .next (sendFrame (frameOf opcMask0 p) s)
/-- R208 -/
def execMask1 (p : Nibble) (s : State) : Host.Outcome State Fault Refusal := .next (sendFrame (frameOf opcMask1 p) s)
/-- R209 -/
def execMode (p : Nibble) (s : State) : Host.Outcome State Fault Refusal := .next (sendFrame (frameOf opcMode p) s)
/-- R210. The PDC clears no bit of STATUS[0] itself. -/
def execClint0 (p : Nibble) (s : State) : Host.Outcome State Fault Refusal := .next (sendFrame (frameOf opcClint0 p) s)
/-- R211. The PDC clears no bit of STATUS[0] itself. -/
def execClint1 (p : Nibble) (s : State) : Host.Outcome State Fault Refusal := .next (sendFrame (frameOf opcClint1 p) s)
/-- R212. The calibration pulse that follows in the bring-up is the labels B_CAL_SEL and B_CAL_HOLD. -/
def execDeadtime (p : Nibble) (s : State) : Host.Outcome State Fault Refusal := .next (sendFrame (frameOf opcDeadtime p) s)

end Sys2Proof.Machine
end

