-- ==== Sys2Proof/Machine/HostOps.lean ====
section
/-! DEFINITION. The meanings of the six host operations (44_host_operations R302 to R307): what the write to CTRL
does, in the one atomic step R300 gives it. The rest of INIT, SEND, READ_STATUS and CLEAR_FAULTS is the sequencer's. -/

namespace Sys2Proof.Machine

/-- The host-write part of INIT (R302): the checks come before any line event or transfer, dead time first (R347). -/
def initBody (s : State) : State :=
  let s1 := setState .poweredOff s
  if s.params.dtMaxNs < (cfgDeadtime s.cfg0).toNat then raiseFault .outOfRange s1
  else if s.env.pinmapOk = false then raiseFault .invalidArgument s1
  else goto .bRstAssert { s1 with stat.busy := true, seq.opKind := .bringup }

/-- The host-write part of SHUTDOWN (R304). -/
def shutdownBody (s : State) : State :=
  finish .success (setState .poweredOff (forgetDevice (driveInactive s)))

/-- The host-write part of SEND b (R305): the state check before the frame check (92 D28). -/
def sendBody (b : Byte) (s : State) : State :=
  onlyActive (fun t => if sendAccepts b then startHostFrames [b] t else finish .invalidArgument t) s

/-- The host-write part of READ_STATUS (R306). -/
def readStatusBody (n : BitVec 2) (hi : BitVec 6) (s : State) : State :=
  onlyActive (fun t => if hi = 0#6 then startHostFrames (readStatusFrames n) t else finish .invalidArgument t) s

/-- The host-write part of CLEAR_FAULTS c0, c1 (R307). -/
def clearFaultsBody (c0 c1 : Nibble) (s : State) : State := onlyActive (startHostFrames (clearFaultsFrames c0 c1)) s

/-- R303: nothing beyond the Host event. -/
def execNop (arg : Byte) (s : State) : Host.Outcome State Fault Refusal := .next (acceptCtrl 0#3 arg id s)
/-- R302 -/
def execInit (arg : Byte) (s : State) : Host.Outcome State Fault Refusal := .next (acceptCtrl 1#3 arg initBody s)
/-- R304 -/
def execShutdown (arg : Byte) (s : State) : Host.Outcome State Fault Refusal := .next (acceptCtrl 2#3 arg shutdownBody s)
/-- R305 -/
def execSend (b : Byte) (s : State) : Host.Outcome State Fault Refusal := .next (acceptCtrl 3#3 b (sendBody b) s)
/-- R306 -/
def execReadStatus (n : BitVec 2) (hi : BitVec 6) (s : State) : Host.Outcome State Fault Refusal :=
  .next (acceptCtrl 4#3 (hi ++ n) (readStatusBody n hi) s)
/-- R307 -/
def execClearFaults (c0 c1 : Nibble) (s : State) : Host.Outcome State Fault Refusal :=
  .next (acceptCtrl 5#3 (c1 ++ c0) (clearFaultsBody c0 c1) s)

/-- A CTRL write with OP 6 or 7 (R308), which no row of the opcode table has. -/
def reservedOp (w : Word) (s : State) : State := acceptCtrl (ctrlOp w) (ctrlArg w) (finish .invalidArgument) s

end Sys2Proof.Machine
end

