-- ==== Sys2Proof/Machine/Dispatch.lean ====
section
/-! DEFINITION. One arm per instruction. -/

namespace Sys2Proof.Machine

def exec (i : Instr) (s : State) : Host.Outcome State Fault Refusal :=
  match i with
  | .null0 => Sys2Proof.Machine.execNull0 s
  | .null1 => Sys2Proof.Machine.execNull1 s
  | .null2 => Sys2Proof.Machine.execNull2 s
  | .null3 => Sys2Proof.Machine.execNull3 s
  | .mask0 p => Sys2Proof.Machine.execMask0 p s
  | .mask1 p => Sys2Proof.Machine.execMask1 p s
  | .mode p => Sys2Proof.Machine.execMode p s
  | .clint0 p => Sys2Proof.Machine.execClint0 p s
  | .clint1 p => Sys2Proof.Machine.execClint1 p s
  | .deadtime p => Sys2Proof.Machine.execDeadtime p s
  | .nop arg => Sys2Proof.Machine.execNop arg s
  | .init arg => Sys2Proof.Machine.execInit arg s
  | .shutdown arg => Sys2Proof.Machine.execShutdown arg s
  | .send b => Sys2Proof.Machine.execSend b s
  | .readStatus n hi => Sys2Proof.Machine.execReadStatus n hi s
  | .clearFaults c0 c1 => Sys2Proof.Machine.execClearFaults c0 c1 s

end Sys2Proof.Machine
end

