-- ==== Sys2Proof/Machine/Sequencer.lean ====
section
/-! DEFINITION. The sequencer's labelled steps (43_bringup_fsm R253 to R266, 44_host_operations R309), all but
X_XFER, which runs a command frame (Machine/Moves.lean). -/

namespace Sys2Proof.Machine

/-- X_SEL (R253). -/
def stepXSel (s : State) : State :=
  goto .xXfer (selectDevice
    { s with
      seq.attempt := s.seq.attempt + 1
      stat.retries := if s.seq.attempt + 1 = 1 then 0#4 else s.stat.retries
      stat.cfgStep := if s.seq.opKind = .bringup then BitVec.ofNat 2 s.seq.opIdx else s.stat.cfgStep })

/-- X_UNSEL (R253). -/
def stepXUnsel (s : State) : State := goto .xResult (unselectDevice s)

/-- X_RESULT: the handling of LASTRES (R254, 60_exceptions R341). -/
def stepXResult (s : State) : State :=
  match s.seq.lastRes with
  | .success => goto .xNext s
  | .busy => if s.seq.attempt ≤ s.params.busyRetryMax then goto .xBackoff s else raiseFault .fail s
  | .error => raiseFault .fail s
  | .invalidArgument => raiseFault .invalidArgument s
  | .timeout => raiseFault .timeout s

/-- X_NEXT (R253). -/
def stepXNext (s : State) : State :=
  let s1 := { s with seq.opIdx := s.seq.opIdx + 1, seq.attempt := 0 }
  if s.seq.opIdx + 1 < s.seq.opList.length then goto .xSel s1
  else
    match s.seq.opKind with
    | .bringup => goto .bCalSel s1
    | .hostop => goto .hDone s1

/-- B_RST_ASSERT (R255). -/
def stepRstAssert (s : State) : State :=
  goto .bRstWait (setState .resetAsserted
    { forgetDevice (driveInactive s) with stat.cfgStep := 0#2, stat.retries := 0#4 })

/-- B_RST_WAIT (R256). -/
def stepRstWait (s : State) : State := goto .bEn1 (setState .resetReleased (line .rst false s))

/-- B_EN1 (R257). -/
def stepEn1 (s : State) : State := goto .bEn2 (line .en1 true s)

/-- B_EN2 (R258). -/
def stepEn2 (s : State) : State := goto .bEnWait (line .en2 true s)

/-- B_EN_WAIT (R259). -/
def stepEnWait (s : State) : State := goto .bLsHold (line .ls true (setState .lowSideToggling s))

/-- B_LS_HOLD (R260). -/
def stepLsHold (s : State) : State :=
  goto .bHsHold (line .hs true (setState .highSideToggling (line .ls false s)))

/-- B_HS_HOLD (R262). -/
def stepHsHold (s : State) : State :=
  startFrames (cfgFrames s.params s.cfg0) .bringup (setState .configuring (line .hs false s))

/-- B_CAL_SEL (R264): no calibration pulse where no dead time is configured. -/
def stepCalSel (s : State) : State :=
  if cfgDeadtime s.cfg0 = 0#16 then goto .bDone s else goto .bCalHold (line .cs true s)

/-- B_CAL_HOLD (R265). -/
def stepCalHold (s : State) : State := goto .bDone (line .cs false s)

/-- B_DONE (R266). -/
def stepDone (s : State) : State := finish .success (setState .active s)

/-- H_DONE (44_host_operations R309). -/
def stepHDone (s : State) : State := finish .success s

/-- The step of every label but X_XFER. IDLE has none (R250) and X_XFER's is in Machine/Moves.lean. -/
def labelStep (s : State) : State :=
  match s.seq.spc with
  | .idle => s
  | .xSel => stepXSel s
  | .xXfer => s
  | .xUnsel => stepXUnsel s
  | .xResult => stepXResult s
  | .xBackoff => goto .xSel s
  | .xNext => stepXNext s
  | .bRstAssert => stepRstAssert s
  | .bRstWait => stepRstWait s
  | .bEn1 => stepEn1 s
  | .bEn2 => stepEn2 s
  | .bEnWait => stepEnWait s
  | .bLsHold => stepLsHold s
  | .bHsHold => stepHsHold s
  | .bCalSel => stepCalSel s
  | .bCalHold => stepCalHold s
  | .bDone => stepDone s
  | .hDone => stepHDone s

/-- Whether the sequencer has an enabled step (43_bringup_fsm R250): out of block reset (70 R380), BUSY = 1, and the
wait at the head of the label over. -/
def seqEnabled (s : State) : Bool :=
  s.env.rstN && s.stat.busy && (waitOf s.params s.cfg0 s.seq.spc == none || waitElapsed s)

end Sys2Proof.Machine
end

