-- ==== Sys2Proof/Machine/HostBus.lean ====
section
/-! DEFINITION. The host's register window (10_state R22, 20_memory R80 to R89): where an access goes, what a read
returns, what a write other than to CTRL does, and the host-side pseudo-operations of 30_encoding R120. -/

namespace Sys2Proof.Machine

/-- The offsets of the register map (R22). -/
def offCtrl : Nat := 0x00
def offStat : Nat := 0x04
def offResult : Nat := 0x08
def offCfg0 : Nat := 0x0C
def offCfg1 : Nat := 0x10
def offSnap : Nat := 0x14
def offDtcode : Nat := 0x18
def offLastXfer : Nat := 0x1C

/-- Whether an address is in the 64-byte window (R80). -/
def inWindow (base addr : Nat) : Bool := decide (base ≤ addr) && decide (addr < base + 64)

/-- Whether the PDC performs an access: 32 bits wide, aligned, and at a register (R81, R83). -/
def accessOk (off width : Nat) : Bool := width == 4 && off % 4 == 0 && decide (off < 0x20)

/-- Where an access goes: past the window it is not the PDC's (log 12); in the window it is performed or is a bus error. -/
def busTarget (base : Nat) : HostAccess → BusTarget
  | .read addr width =>
    if inWindow base addr then
      if accessOk (addr - base) width then .read (addr - base) else .error
    else .outside
  | .write addr width v =>
    if inWindow base addr then
      if accessOk (addr - base) width then .write (addr - base) v else .error
    else .outside

/-- `DTCODE`, a view of CFG0 (10_state R31). -/
def dtcodeWord (s : State) : Word := BitVec.ofNat 32 (dtEncode s.params.fDtHz (cfgDeadtime s.cfg0).toNat)

/-- What a read of the register at an offset returns (R22 to R32); CTRL reads 0. -/
def readReg (off : Nat) (s : State) : Word :=
  match off with
  | 0x04 => statWord s.stat
  | 0x08 => resultWord s.result
  | 0x0C => s.cfg0
  | 0x10 => s.cfg1
  | 0x14 => snapWord s.status
  | 0x18 => dtcodeWord s
  | 0x1C => lastXferWord s.lastXfer
  | _ => 0#32

/-- Whether the configuration is writable: idle in `PoweredOff` or `Faulted` (44_host_operations R310). -/
def cfgUnlocked (s : State) : Bool := s.stat.state == .poweredOff || s.stat.state == .faulted

/-- A write of CFG0 that is accepted; a change of CS_POL moves `cs_o`, so `Line(CS, 0)` is recorded (R310). -/
def storeCfg0 (v : Word) (s : State) : State :=
  if cfgCsPol (cfg0Stored v) = cfgCsPol s.cfg0 then { s with cfg0 := cfg0Stored v }
  else record (.line .cs false) { s with cfg0 := cfg0Stored v }

/-- A configuration write (R310): dropped while busy, `ReadOnly` where locked, else stored. -/
def configWrite (store : State → State) (s : State) : State :=
  if s.stat.busy then loseCommand s
  else if cfgUnlocked s then store s
  else { s with result := .readOnly }

/-- A write to STAT clears CMD_LOST where bit 4 is 1 and changes nothing else (10_state R24). -/
def statWrite (v : Word) (s : State) : State := { s with stat.cmdLost := cmdLostAfter s.stat.cmdLost v }

/-- A write to a register other than CTRL; RESULT, SNAP, DTCODE and LASTXFER ignore it (20_memory R89). -/
def writeReg (off : Nat) (v : Word) (s : State) : State :=
  match off with
  | 0x04 => statWrite v s
  | 0x0C => configWrite (storeCfg0 v) s
  | 0x10 => configWrite (fun t => { t with cfg1 := v }) s
  | _ => s

/-! ### Pseudo-operations of the host (30_encoding R120) -/

/-- `FLUSH` = `SEND NULL0`. -/
def pseudoFlush : Instr := .send (frameOf opcNull 0#4)

/-- `CLEAR_ALL` = `CLEAR_FAULTS 0xF, 0xF`. -/
def pseudoClearAll : Instr := .clearFaults 0xF#4 0xF#4

/-- The access that issues a host operation: a write of its CTRL word (R116, R119). -/
def issue (base : Nat) (w : Word) : HostAccess := .write (base + offCtrl) 4 w

/-- `WAITIDLE` is over: `(RD 0x04) & 0x8 = 0`. -/
def waitIdleOver (s : State) : Bool := readReg offStat s &&& 0x8#32 == 0#32

/-- The accesses of `BRINGUP cfg0`: the configuration and `INIT` before the poll, and the read of RESULT after it. -/
def pseudoBringup (base : Nat) (cfg0 : Word) : List HostAccess × List HostAccess :=
  ([.write (base + offCfg0) 4 cfg0, issue base 1#32], [.read (base + offResult) 4])

end Sys2Proof.Machine
end

