-- ==== Sys2Proof/Machine/Moves.lean ====
section
/-! DEFINITION. What each agent's move does (00_scope R3, 20_memory R91, R92), and fetching a command frame. -/

namespace Sys2Proof.Machine

/-- The next move of the run: the next planned one, or a free value (log 1). -/
def nextMove (s : State) : Move :=
  match s.env.moves with
  | m :: _ => m
  | [] => Config.freeMove s.env.draws

/-- The move is used up. -/
def takeMove (s : State) : State :=
  match s.env.moves with
  | _ :: rest => { s with env.moves := rest }
  | [] => { s with env.draws := s.env.draws + 1 }

/-- The frame in progress, `OPLIST[OPIDX]` (43_bringup_fsm R253). -/
def currentFrame (s : State) : Option Byte := s.seq.opList[s.seq.opIdx]?

/-- The instruction the sequencer sends next, and the same instruction's run; a missing or reserved frame stops the model (log 11). -/
def xferStep (s : State) : Host.Outcome State Fault Refusal :=
  match currentFrame s with
  | none => .fault .noFrame
  | some b =>
    match decodeFrameBytes [b] with
    | .ok (i, _) => exec i s
    | .error _ => .refused (.reservedFrame b)

/-- The sequencer's move (43_bringup_fsm R250): its step where it has an enabled one, else nothing (log 9). -/
def seqMove (s : State) : Host.Outcome State Fault Refusal :=
  if seqEnabled s then
    match s.seq.spc with
    | .xXfer => xferStep s
    | _ => .next (labelStep s)
  else .next s

/-- A write of `w` to CTRL (44_host_operations R300, R308). -/
def ctrlWrite (w : Word) (s : State) : Host.Outcome State Fault Refusal :=
  match decodeCtrl w with
  | .ok i => exec i s
  | .error _ => .next (reservedOp w s)

/-- The host's access (20_memory R80 to R89). During block reset an access in the window is a bus error (70 R380, log 13). -/
def hostMove (a : HostAccess) (s : State) : Host.Outcome State Fault Refusal :=
  match busTarget s.params.baseAddr a with
  | .outside => .next s
  | .error => .next { s with bus := .error }
  | .read off => .next { s with bus := if s.env.rstN then .data (readReg off s) else .error }
  | .write off v =>
    if s.env.rstN then
      match off with
      | 0 => ctrlWrite v { s with bus := .written }
      | _ => .next (writeReg off v { s with bus := .written })
    else .next { s with bus := .error }

/-- The host's move: an access, or none where its last access is behind it (70 R397, log 29). -/
def hostTurn (a : HostAccess) (s : State) : Host.Outcome State Fault Refusal :=
  if s.env.hostEnded then .next s else hostMove a s

/-- The input `rst_n` (70_reset_and_hazards R380). -/
def rstMove (level : Bool) (s : State) : State := if level then { s with env.rstN := true } else blockReset s

/-- One move of one agent. -/
def runMove (m : Move) (s : State) : Host.Outcome State Fault Refusal :=
  match m with
  | .advance dt => .next { s with env.now := s.env.now + dt }
  | .clock => .next (delayTick s)
  | .sysclk hz => .next { s with env.sysclkHz := hz }
  | .pinmap ok => .next { s with env.pinmapOk := ok }
  | .rst level => .next (rstMove level s)
  | .host a => hostTurn a s
  | .hostEnds => .next { s with env.hostEnded := true }
  | .seq => seqMove s

/-- The frame `b` is placed where the sequencer's next step sends it: BUSY = 1, SPC at X_XFER, OPLIST[OPIDX] = b, and the
sequencer moves next (log 16). -/
def placeFrame (b : Byte) (s : State) : State :=
  { s with
    stat.busy := true
    seq.spc := .xXfer
    seq.opList := [b]
    seq.opIdx := 0
    env.rstN := true
    env.moves := .seq :: s.env.moves }

/-- The CTRL word `w` is placed where the next step takes it: the host's next move is the write of it (log 16). -/
def placeCtrl (w : Word) (s : State) : State :=
  { s with env.rstN := true, env.hostEnded := false, env.moves := .host (issue s.params.baseAddr w) :: s.env.moves }

/-- An encoded instruction placed where the next step runs it. -/
def placeWord (e : Encoded) (s : State) : State :=
  match e with
  | .frame b => placeFrame b s
  | .ctrl w => placeCtrl w s

end Sys2Proof.Machine
end

