-- ==== Sys2Proof/Machine/Step.lean ====
section
/-! DEFINITION. One step of the whole system: the next move of the run (20_memory R91). -/

namespace Sys2Proof.Machine

/-- One step: the next agent's move is taken from the plan, or drawn, and run. -/
def step (s : State) : Host.Outcome State Fault Refusal := runMove (nextMove s) (takeMove s)

/-- The table word `w` placed where `step` runs its next instruction (log 15, log 16). -/
def State.withFetchWord (s : State) (nbits w : Nat) : State := placeWord (tableWord nbits w) s

end Sys2Proof.Machine
end

