-- ==== Sys2Proof/Safety.lean ====
section
/-! DEFINITION. What holds in every state a run reaches (the invariant), the arcs of the state machine, how the
trace accounts for the lines, and when a run is over. These are the terms the claims use. -/

namespace Sys2Proof.Safety

open Sys2Proof.Machine

/-! ### The invariant, piece by piece -/

/-- `SPC = IDLE` exactly when `BUSY = 0` (10_state R36). -/
abbrev IdleMeansFree (s : State) : Prop := s.stat.busy = false ↔ s.seq.spc = .idle

/-- The states in which BUSY can be 0 (44_host_operations R312). -/
def restState (st : PdcState) : Bool := st == .poweredOff || st == .active || st == .faulted

/-- The labels of the transfer procedure (43_bringup_fsm R253). -/
def isXferLabel : Label → Bool
  | .xSel | .xXfer | .xUnsel | .xResult | .xBackoff | .xNext => true
  | _ => false

/-- Which STATE each label is run in (43_bringup_fsm R253 to R266, 44_host_operations R309). -/
def labelStateOk (l : Label) (k : OpKind) (st : PdcState) : Bool :=
  match l with
  | .idle => restState st
  | .bRstAssert => st == .poweredOff
  | .bRstWait => st == .resetAsserted
  | .bEn1 | .bEn2 | .bEnWait => st == .resetReleased
  | .bLsHold => st == .lowSideToggling
  | .bHsHold => st == .highSideToggling
  | .xSel | .xXfer | .xUnsel | .xResult | .xBackoff | .xNext =>
    match k with
    | .bringup => st == .configuring
    | .hostop => st == .active
  | .bCalSel | .bCalHold | .bDone => st == .configuring
  | .hDone => st == .active

/-- STATE is the one the label is run in. -/
abbrev StateFitsLabel (s : State) : Prop := labelStateOk s.seq.spc s.seq.opKind s.stat.state = true

/-- CS is selected exactly inside a bracket and inside the calibration pulse (41_transport_and_lines R181,
43_bringup_fsm R253, R264, R265). -/
def csLabel : Label → Bool
  | .xXfer | .xUnsel | .bCalHold => true
  | _ => false

/-- CS, LS and HS are on exactly at the labels that hold them (43_bringup_fsm R259 to R262); so LS and HS are never on
together. -/
abbrev PulsesFitLabel (s : State) : Prop :=
  s.lines.csSel = csLabel s.seq.spc ∧ (s.lines.ls = true ↔ s.seq.spc = .bLsHold) ∧
    (s.lines.hs = true ↔ s.seq.spc = .bHsHold)

/-- EN1 leads EN2, and neither is on while RST is asserted (43_bringup_fsm R255 to R258). -/
abbrev EnablesOrdered (s : State) : Prop :=
  (s.lines.en2 = true → s.lines.en1 = true) ∧ (s.lines.en1 = true → s.lines.rstAsserted = false)

/-- The reset and enable lines at each label, and at rest in `PoweredOff` and `Active`. -/
def powerLinesOk (l : Label) (st : PdcState) (b : Lines) : Bool :=
  match l with
  | .idle =>
    match st with
    | .poweredOff => b.rstAsserted && !b.en1 && !b.en2
    | .active => !b.rstAsserted && b.en1 && b.en2
    | _ => true
  | .bRstAssert => true
  | .bRstWait => b.rstAsserted && !b.en1 && !b.en2
  | .bEn1 => !b.rstAsserted && !b.en1 && !b.en2
  | .bEn2 => !b.rstAsserted && b.en1 && !b.en2
  | _ => !b.rstAsserted && b.en1 && b.en2

/-- RST, EN1 and EN2 are where the sequence has put them (43_bringup_fsm R255 to R258, 44_host_operations R304). -/
abbrev PowerLinesFitLabel (s : State) : Prop := powerLinesOk s.seq.spc s.stat.state s.lines = true

/-- A frame an active-state operation may send (44_host_operations R305 to R307). -/
def serviceFrames (frames : List Byte) : Bool := frames.all sendAccepts

/-- In the transfer procedure OPIDX names a frame of OPLIST; OPLIST is `CfgFrames()` in a bring-up (43_bringup_fsm R263)
and holds only NULL and CLINT frames in a host operation (44_host_operations R305 to R307). -/
abbrev FramesFitLabel (s : State) : Prop :=
  isXferLabel s.seq.spc = true →
    s.seq.opIdx < s.seq.opList.length ∧
    (s.seq.opKind = .bringup → s.seq.opList = cfgFrames s.params s.cfg0) ∧
    (s.seq.opKind = .hostop → serviceFrames s.seq.opList = true)

/-- How many attempts of a frame have been begun at each label (43_bringup_fsm R253, R254). -/
def attemptOk (maxRetry : Nat) (l : Label) (n : Nat) : Bool :=
  match l with
  | .xSel => decide (n ≤ maxRetry)
  | .xBackoff => decide (1 ≤ n) && decide (n ≤ maxRetry)
  | .xXfer | .xUnsel | .xResult | .xNext => decide (1 ≤ n) && decide (n ≤ maxRetry + 1)
  | _ => true

/-- A frame is attempted at most `BUSY_RETRY_MAX + 1` times (43_bringup_fsm R254). -/
abbrev AttemptsBounded (s : State) : Prop := attemptOk s.params.busyRetryMax s.seq.spc s.seq.attempt = true

/-- `Busy` answers of the current frame so far, from ATTEMPT and LASTRES, at each label. -/
def busyCount (l : Label) (attempt : Nat) (res : XferResult) : Nat :=
  match l with
  | .xSel | .xBackoff => attempt
  | .xXfer => attempt - 1
  | _ => if res = .busy then attempt else attempt - 1

/-- STAT.RETRIES counts the `Busy` answers of the current frame, saturating at 15 (10_state R24, 41_transport_and_lines
R174), from the frame's first X_SEL on. -/
abbrev RetriesCount (s : State) : Prop :=
  isXferLabel s.seq.spc = true → 1 ≤ s.seq.attempt →
    s.stat.retries.toNat = min 15 (busyCount s.seq.spc s.seq.attempt s.seq.lastRes)

/-- STAT.CFG_STEP is the index of the configuration frame in progress (43_bringup_fsm R253, R263). -/
abbrev CfgStepFits (s : State) : Prop :=
  isXferLabel s.seq.spc = true → s.seq.spc ≠ .xSel → s.seq.opKind = .bringup →
    s.stat.cfgStep.toNat = s.seq.opIdx

/-- At a wait, WAIT_D is the wait's duration and WAIT_START is not in the future (40_wait_service R150, R157). -/
abbrev WaitFits (s : State) : Prop :=
  ∀ d, waitOf s.params s.cfg0 s.seq.spc = some d → s.seq.waitD = d ∧ s.seq.waitStart ≤ s.env.now

/-- What the registers never hold: CFG0's reserved bits are 0 (10_state R28, R43), RESULT is never
`NoTransferInProgress` (60_exceptions R340), FAULT_AT is a state a fault is raised in (60_exceptions R346), the received
byte of a failed transfer is 0 and LASTXFER is 0 before any transfer (10_state R32), and no register is marked latched
before a frame was exchanged (10_state R26, R39). -/
abbrev RegistersLegal (s : State) : Prop :=
  s.cfg0 &&& 0x0000F000#32 = 0#32 ∧
  s.result ≠ .noTransferInProgress ∧
  (s.stat.faultAt = .poweredOff ∨ s.stat.faultAt = .configuring ∨ s.stat.faultAt = .active) ∧
  (s.lastXfer.res ≠ .success → s.lastXfer.rx = 0#8) ∧
  (s.lastXfer.valid = false → s.lastXfer = LastXfer.reset) ∧
  (s.stat.prevReq = .noReq → s.stat.snapValid = 0#4)

/-- The trace's time stamps never go back and are never in the future (20_memory R97). -/
def traceSorted (now : Nat) : List (Nat × Event) → Bool
  | [] => true
  | [e] => decide (e.1 ≤ now)
  | e :: f :: rest => decide (e.1 ≤ f.1) && traceSorted now (f :: rest)

/-- The trace is in time order. -/
abbrev TraceInOrder (s : State) : Prop := traceSorted s.env.now s.trace = true

/-- Every PDC register holds its block-reset value (10_state R44). WAIT_START, WAIT_D and the delay unit's counter, to
which the spec gives none (log 6, log 7), are left free. -/
abbrev AtResetValues (s : State) : Prop :=
  s = { State.atReset s.trace s.bus s.env s.params with
    seq.waitStart := s.seq.waitStart
    seq.waitD := s.seq.waitD
    seq.waitCount := s.seq.waitCount
    seq.waitPhase := s.seq.waitPhase }

/-- While `rst_n = 0` every PDC register holds its reset value (70_reset_and_hazards R380). -/
abbrev HeldInReset (s : State) : Prop := s.env.rstN = false → AtResetValues s

/-- The parameters are within the spec's limits (00_scope R6). -/
abbrev ParamsLegal (s : State) : Prop := s.params.wf = true

/-- The invariant of the model: it holds after reset and every step keeps it. -/
def StateInv (s : State) : Prop :=
  IdleMeansFree s ∧ StateFitsLabel s ∧ PulsesFitLabel s ∧ EnablesOrdered s ∧ PowerLinesFitLabel s ∧
  FramesFitLabel s ∧ AttemptsBounded s ∧ RetriesCount s ∧ CfgStepFits s ∧ WaitFits s ∧
  RegistersLegal s ∧ TraceInOrder s ∧ HeldInReset s ∧ ParamsLegal s

/-! ### The arcs of the state machine -/

/-- The arcs of 43_bringup_fsm R267, one host write or sequencer step at a time. A rejected INIT writes `PoweredOff` and
then `Faulted` in one step, so its arc goes from the state at rest to `Faulted`. -/
def arc : PdcState → PdcState → Bool
  | .poweredOff, .resetAsserted => true
  | .resetAsserted, .resetReleased => true
  | .resetReleased, .lowSideToggling => true
  | .lowSideToggling, .highSideToggling => true
  | .highSideToggling, .configuring => true
  | .configuring, .active => true
  | .configuring, .faulted => true
  | .active, .faulted => true
  | .poweredOff, .faulted => true
  | .active, .poweredOff => true
  | .faulted, .poweredOff => true
  | _, _ => false

/-! ### The trace and the lines -/

/-- The lines after a list of events (20_memory R97, 41_transport_and_lines R170). -/
def replayLines : List Event → Lines → Lines
  | [], b => b
  | .line l level :: rest, b => replayLines rest (setLine l level b)
  | .frame _ _ _ :: rest, b => replayLines rest b
  | .state _ :: rest, b => replayLines rest b
  | .done _ :: rest, b => replayLines rest b
  | .host _ _ :: rest, b => replayLines rest b

/-- STATE after a list of events (43_bringup_fsm R252). -/
def replayState : List Event → PdcState → PdcState
  | [], st => st
  | .state st' :: rest, _ => replayState rest st'
  | .line _ _ :: rest, st => replayState rest st
  | .frame _ _ _ :: rest, st => replayState rest st
  | .done _ :: rest, st => replayState rest st
  | .host _ _ :: rest, st => replayState rest st

/-- A trace grows by events that all carry one time stamp (43_bringup_fsm R250). -/
def stamped (now : Nat) (es : List Event) : List (Nat × Event) := es.map fun e => (now, e)

/-- The frame events of a list. -/
def frameEvents (es : List Event) : List Event :=
  es.filter fun e => match e with | .frame _ _ _ => true | _ => false

/-! ### The end of a run (70_reset_and_hazards R397) -/

/-- The host's last access is behind it and BUSY = 0. -/
def runOver (s : State) : Bool := s.env.hostEnded && !s.stat.busy

/-- A run: the states of the machine, one step apart. -/
def IsRun (run : Nat → State) : Prop := ∀ n, step (run n) = .next (run (n + 1))

/-- A run ends at its first state that is over. -/
def RunEndsAt (run : Nat → State) (n : Nat) : Prop :=
  runOver (run n) = true ∧ ∀ m, m < n → runOver (run m) = false

/-- R397's fairness premises, which the source does not state and no step assumes: every enabled sequencer step is
eventually taken, and with it (log 25) every transfer is eventually answered. -/
def FairRun (run : Nat → State) : Prop :=
  ∀ n, seqEnabled (run n) = true → ∃ m, n ≤ m ∧ seqEnabled (run m) = true ∧ nextMove (run m) = .seq

/-- What a run shows: at its end the registers of 10_state R22, the line bits and STATUS[0..3], and the trace. -/
structure Observation where
  registers : List Word
  lines : Lines
  status : StatusFile
  trace : List (Nat × Event)
  deriving DecidableEq, Repr

/-- The offsets of the register map, in order (10_state R22). -/
def registerOffsets : List Nat := [offCtrl, offStat, offResult, offCfg0, offCfg1, offSnap, offDtcode, offLastXfer]

/-- The observation of a state. -/
def observe (s : State) : Observation where
  registers := registerOffsets.map fun off => readReg off s
  lines := s.lines
  status := s.status
  trace := s.trace

/-- The frame instructions of the opcode table. -/
def isFrame : Instr → Bool
  | .null0 | .null1 | .null2 | .null3 => true
  | .mask0 _ | .mask1 _ | .mode _ | .clint0 _ | .clint1 _ | .deadtime _ => true
  | _ => false

end Sys2Proof.Safety
end

