-- ==== Sys2Proof/Certificates/Slice0/Obligations.lean ====
section
/-! DEFINITION. The statements for the provers, each a proposition about the model, with the rule or the section of
spec/ it formalises in its docstring. A conclusion written `step s = .next { … with … }` or `exec i s = .next { … with … }`
is at once the result and the frame: every field it does not name keeps its value. -/

namespace Sys2Proof.Claims

open Sys2Proof.Machine Sys2Proof.Safety

/-! ### The terms of the statements -/

/-- The sequencer moves next and has a step at label `l`: out of block reset, BUSY = 1, SPC = `l` (43_bringup_fsm R250). -/
def Scheduled (l : Label) (s : State) : Prop :=
  nextMove s = .seq ∧ s.env.rstN = true ∧ s.stat.busy = true ∧ s.seq.spc = l

/-- `Scheduled` at a label that begins with a wait, the wait being over (R250). -/
def Due (l : Label) (s : State) : Prop := Scheduled l s ∧ s.seq.waitStart + s.seq.waitD ≤ s.env.now

/-- The host, which has not made its last access, moves next, out of block reset, and writes `w` to the register at
offset `off` (20_memory R80). -/
def HostWrites (off : Nat) (w : Word) (s : State) : Prop :=
  nextMove s = .host (.write (s.params.baseAddr + off) 4 w) ∧ s.env.rstN = true ∧ s.env.hostEnded = false

/-- The host, which has not made its last access, moves next, out of block reset, and reads the register at offset
`off` (R80). -/
def HostReads (off : Nat) (s : State) : Prop :=
  nextMove s = .host (.read (s.params.baseAddr + off) 4) ∧ s.env.rstN = true ∧ s.env.hostEnded = false

/-- The next move does not drive `rst_n` low. -/
def NoBlockReset (s : State) : Prop := nextMove s ≠ .rst false

/-- `t`'s trace is `s`'s with the events `es` added, all stamped with the time of `s` (20_memory R97). -/
def Adds (es : List Event) (s t : State) : Prop := t.trace = s.trace ++ stamped s.env.now es

/-- The wait of duration `d` begins at the time of `s` (40_wait_service R150). -/
def WaitBegins (d : Nat) (s t : State) : Prop := t.seq.waitStart = s.env.now ∧ t.seq.waitD = d

/-- The registers and inputs that no line step of the bring-up touches. -/
def KeepsRegisters (s t : State) : Prop :=
  t.result = s.result ∧ t.cfg0 = s.cfg0 ∧ t.cfg1 = s.cfg1 ∧ t.status = s.status ∧ t.lastXfer = s.lastXfer ∧
  t.bus = s.bus ∧ t.params = s.params ∧ t.env.now = s.env.now ∧ t.env.sysclkHz = s.env.sysclkHz ∧
  t.env.pinmapOk = s.env.pinmapOk ∧ t.env.rstN = s.env.rstN ∧ t.env.hostEnded = s.env.hostEnded ∧
  t.env.answers = s.env.answers

/-- The frame list and its counters are kept (10_state R38). -/
def KeepsFrameList (s t : State) : Prop :=
  t.seq.opList = s.seq.opList ∧ t.seq.opIdx = s.seq.opIdx ∧ t.seq.attempt = s.seq.attempt ∧
  t.seq.opKind = s.seq.opKind ∧ t.seq.lastRes = s.seq.lastRes

/-- The byte each frame instruction sends (42_command_codec R203 to R212), and the register it requests for the next
frame (R215; that a non-NULL frame requests register 0 is the spec's own decision D19, marked as general knowledge). -/
def frameSpec : Instr → Option (Byte × Req)
  | .null0 => some (0x00#8, .s0)
  | .null1 => some (0x01#8, .s1)
  | .null2 => some (0x02#8, .s2)
  | .null3 => some (0x03#8, .s3)
  | .mask0 p => some (0x20#8 ||| p.setWidth 8, .s0)
  | .mask1 p => some (0x30#8 ||| p.setWidth 8, .s0)
  | .mode p => some (0x40#8 ||| p.setWidth 8, .s0)
  | .clint0 p => some (0x60#8 ||| p.setWidth 8, .s0)
  | .clint1 p => some (0x70#8 ||| p.setWidth 8, .s0)
  | .deadtime p => some (0x80#8 ||| p.setWidth 8, .s0)
  | .nop _ | .init _ | .shutdown _ | .send _ | .readStatus _ _ | .clearFaults _ _ => none

/-- The marker that names status register `k` (10_state R26). -/
def reqNumber (k : Fin 4) : Req :=
  match k with
  | 0 => .s0
  | 1 => .s1
  | 2 => .s2
  | 3 => .s3

/-- The reserved frame bytes, as 30_encoding R117 lists them. -/
def reservedByte (b : Byte) : Bool :=
  let opc := b.toNat / 16
  let pl := b.toNat % 16
  opc == 1 || opc == 5 || decide (9 ≤ opc) || (opc == 0 && decide (4 ≤ pl)) ||
    (opc == 4 && pl / 4 % 2 == 1) || (opc == 8 && decide (2 ≤ pl))

/-- The frames `SEND` allows: NULL0 to NULL3, CLINT0 and CLINT1 (44_host_operations R305). -/
def sendAllowed (b : Byte) : Bool := decide (b.toNat ≤ 0x03) || (decide (0x60 ≤ b.toNat) && decide (b.toNat ≤ 0x7F))

/-- The number a read of STAT returns, field by field (10_state R24). -/
def statNumber (st : Stat) : Nat :=
  (stateCode st.state).toNat + st.busy.toNat * 0x8 + st.cmdLost.toNat * 0x10 + (stateCode st.faultAt).toNat * 0x100 +
    st.cfgStep.toNat * 0x1000 + (reqCode st.prevReq).toNat * 0x10000 + st.snapValid.toNat * 0x100000 +
    st.retries.toNat * 0x1000000

/-- The number a read of each register but STAT returns (10_state R22 to R32). -/
def readNumber (s : State) : Nat → Option Nat
  | 0x00 => some 0
  | 0x08 => some (statusCodeNum s.result).toNat
  | 0x0C => some s.cfg0.toNat
  | 0x10 => some s.cfg1.toNat
  | 0x14 => some (s.status.r0.toNat + s.status.r1.toNat * 0x100 + s.status.r2.toNat * 0x10000 + s.status.r3.toNat * 0x1000000)
  | 0x18 => some (dtEncode s.params.fDtHz (cfgDeadtime s.cfg0).toNat)
  | 0x1C => some (s.lastXfer.tx.toNat + s.lastXfer.rx.toNat * 0x100 + (resCode s.lastXfer.res).toNat * 0x10000 +
      s.lastXfer.valid.toNat * 0x80000)
  | _ => none

/-- Every piece of state at its block-reset value (10_state R44). -/
def ResetFields (t : State) : Prop :=
  t.stat = { state := .poweredOff, busy := false, cmdLost := false, faultAt := .poweredOff, cfgStep := 0#2,
             prevReq := .noReq, snapValid := 0#4, retries := 0#4 } ∧
  t.result = .success ∧
  cfgMask0 t.cfg0 = 0x0#4 ∧ cfgMask1 t.cfg0 = 0x0#4 ∧ cfgLock t.cfg0 = false ∧ cfgFull t.cfg0 = false ∧
  cfgDesatf t.cfg0 = false ∧ cfgCsPol t.cfg0 = false ∧ cfgDeadtime t.cfg0 = 500#16 ∧
  t.cfg1 = 2000000#32 ∧
  t.status = { r0 := 0x00#8, r1 := 0x00#8, r2 := 0x00#8, r3 := 0x00#8 } ∧
  lastXferWord t.lastXfer = 0#32 ∧
  t.lines = { rstAsserted := true, en1 := false, en2 := false, csSel := false, ls := false, hs := false } ∧
  t.seq.spc = .idle ∧ t.seq.opList = [] ∧ t.seq.opIdx = 0 ∧ t.seq.attempt = 0 ∧
  t.seq.opKind = .hostop ∧ t.seq.lastRes = .success

/-- What must move for STATE to go from one state to another (43_bringup_fsm R267). -/
def arcMove (s : State) : PdcState → PdcState → Prop
  | .poweredOff, .resetAsserted => Scheduled .bRstAssert s
  | .resetAsserted, .resetReleased => Scheduled .bRstWait s
  | .resetReleased, .lowSideToggling => Scheduled .bEnWait s
  | .lowSideToggling, .highSideToggling => Scheduled .bLsHold s
  | .highSideToggling, .configuring => Scheduled .bHsHold s
  | .configuring, .active => Scheduled .bDone s
  | .configuring, .faulted => Scheduled .xResult s
  | .active, .faulted => Scheduled .xResult s ∨ (s.stat.busy = false ∧ ∃ w, HostWrites 0x00 w s ∧ w.toNat % 8 = 1)
  | .poweredOff, .faulted => s.stat.busy = false ∧ ∃ w, HostWrites 0x00 w s ∧ w.toNat % 8 = 1
  | .active, .poweredOff | .faulted, .poweredOff =>
    s.stat.busy = false ∧ ∃ w, HostWrites 0x00 w s ∧ (w.toNat % 8 = 1 ∨ w.toNat % 8 = 2)
  | _, _ => False

/-- `n` steps, none where one of them stops. -/
def runSteps : Nat → State → Option State
  | 0, s => some s
  | n + 1, s =>
    match step s with
    | .next t => runSteps n t
    | .fault _ => none
    | .refused _ => none

/-- The moves of a bring-up at its earliest (43_bringup_fsm R253 to R270): `INIT` is written, every wait is given exactly
its duration, and the sequencer takes each step as soon as it may. -/
def bringUpMoves (p : Params) (c : Word) : List Move :=
  [.host (.write p.baseAddr 4 1#32), .seq,
   .advance p.tRstNs, .seq,
   .advance p.tRstToEnNs, .seq,
   .advance p.tEn1ToEn2Ns, .seq,
   .advance p.tEnNs, .seq,
   .advance p.tLsHoldNs, .seq,
   .advance (max p.tHsBaseNs ((cfgDeadtime c).toNat + p.tHsMarginNs)), .seq] ++
  List.replicate 21 .seq ++
  (if cfgDeadtime c = 0#16 then [.seq] else [.advance (p.calFactor * (cfgDeadtime c).toNat), .seq, .seq])

/-- The least time a bring-up without `Busy` answers takes (43_bringup_fsm R270). -/
def bringUpTime (p : Params) (c : Word) : Nat :=
  p.tRstNs + p.tRstToEnNs + p.tEn1ToEn2Ns + p.tEnNs + p.tLsHoldNs +
    max p.tHsBaseNs ((cfgDeadtime c).toNat + p.tHsMarginNs) + p.calFactor * (cfgDeadtime c).toNat

/-- A payload of DEADTIME: 1 where a dead time is configured (30_encoding R114). -/
def calByte (c : Word) : Byte := if cfgDeadtime c = 0#16 then 0x80#8 else 0x81#8

/-- The CTRL word and the frames of each service operation the host may issue in `Active` (44_host_operations R305 to R307). -/
def serviceSpec : Instr → Option (Word × List Byte)
  | .send b => if sendAllowed b then some (ctrlOf 3#3 b, [b]) else none
  | .readStatus n hi => if hi = 0#6 then some (ctrlOf 4#3 (hi ++ n), [n.setWidth 8, 0x00#8]) else none
  | .clearFaults c0 c1 =>
    some (ctrlOf 5#3 (c1 ++ c0), [0x60#8 ||| c0.setWidth 8, 0x70#8 ||| c1.setWidth 8])
  | .nop _ | .init _ | .shutdown _ => none
  | .null0 | .null1 | .null2 | .null3 => none
  | .mask0 _ | .mask1 _ | .mode _ | .clint0 _ | .clint1 _ | .deadtime _ => none

/-- The events of one successful bracket (41_transport_and_lines R181). -/
def bracketEvents (e : Byte × Byte) : List Event :=
  [.line .cs true, .frame e.1 .success e.2, .line .cs false]

end Sys2Proof.Claims

open Sys2Proof Sys2Proof.Machine Sys2Proof.Safety Sys2Proof.Claims

/-! ### Encoding -/

/-- 42_command_codec section 1 (R200 to R202): each frame instruction with a legal payload encodes to one byte that decodes
back to it with the rest of the stream untouched, and a byte that decodes is exactly its instruction's encoding. -/
def Obligations.FrameDecodeEncodeAgree : Prop :=
  (∀ i : Instr, isFrame i = true → i.wf = true →
    ∃ b, encode i = .frame b ∧ ∀ rest, decodeFrameBytes (b :: rest) = .ok (i, rest)) ∧
  (∀ (b : Byte) (i : Instr), decodeFrame b = .ok i → isFrame i = true ∧ i.wf = true ∧ encode i = .frame b)

/-- 30_encoding section 2 (R116): each host operation encodes to a CTRL word whose four byte lanes decode back to it, and a
word that decodes to an operation is that operation's encoding once its ignored bits [7:3] and [31:16] are cleared. -/
def Obligations.CtrlDecodeEncodeAgree : Prop :=
  (∀ i : Instr, isFrame i = false →
    ∃ w, encode i = .ctrl w ∧ ∀ rest, decodeCtrlBytes ((Encoded.ctrl w).bytes ++ rest) = .ok (i, rest)) ∧
  (∀ (w : Word) (i : Instr), decodeCtrl w = .ok i → isFrame i = false ∧ encode i = .ctrl (w &&& 0x0000FF07#32))

/-- 30_encoding R117: the reserved frames are exactly those listed, the encoder never produces one, and a SEND of one
is answered `InvalidArgument` with no frame. -/
def Obligations.ReservedFramesRefused : Prop :=
  (∀ b : Byte, reservedByte b = true ↔ ∃ r, decodeFrame b = .error r) ∧
  (∀ (i : Instr) (b : Byte), i.wf = true → encode i = .frame b → reservedByte b = false) ∧
  (∀ (b : Byte) (s : State), reservedByte b = true → s.stat.busy = false → s.stat.state = .active →
    exec (.send b) s = .next { s with
      result := .invalidArgument
      stat.busy := false
      seq.spc := .idle
      trace := s.trace ++ stamped s.env.now [.host 3#3 b, .done .invalidArgument] })

/-- 30_encoding sections 1 and 2: one word of every family, written out from its encoding. -/
def Obligations.SampleWordsDecode : Prop :=
  decodeFrame 0b00000010#8 = .ok .null2 ∧
  decodeFrame 0b00101111#8 = .ok (.mask0 0b1111#4) ∧
  decodeFrame 0b00110110#8 = .ok (.mask1 0b0110#4) ∧
  decodeFrame 0b01000011#8 = .ok (.mode 0b0011#4) ∧
  decodeFrame 0b01101000#8 = .ok (.clint0 0b1000#4) ∧
  decodeFrame 0b01111000#8 = .ok (.clint1 0b1000#4) ∧
  decodeFrame 0b10000001#8 = .ok (.deadtime 0b0001#4) ∧
  decodeCtrl 0x00000000#32 = .ok (.nop 0x00#8) ∧
  decodeCtrl 0x00000001#32 = .ok (.init 0x00#8) ∧
  decodeCtrl 0x00000002#32 = .ok (.shutdown 0x00#8) ∧
  decodeCtrl 0x00002F03#32 = .ok (.send 0x2F#8) ∧
  decodeCtrl 0x00000204#32 = .ok (.readStatus 2#2 0#6) ∧
  decodeCtrl 0x00008F05#32 = .ok (.clearFaults 0xF#4 0x8#4)

/-! ### A step runs the decoded instruction -/

/-- 43_bringup_fsm section 2 (R253): at X_XFER, where `OPLIST[OPIDX]` is a byte that decodes to `i`, the step is `exec i` after
the move is taken from the plan. -/
def Obligations.StepRunsDecodedFrame : Prop :=
  ∀ (s : State) (b : Byte) (i : Instr), Scheduled .xXfer s → s.seq.opList[s.seq.opIdx]? = some b →
    decodeFrame b = .ok i → step s = exec i (takeMove s)

/-- 44_host_operations section 1 and 20_memory section 1 (R80, R300): where the host writes to CTRL a word that decodes to `i`,
the step is `exec i` after the move is taken from the plan and the write is answered on the bus. -/
def Obligations.StepRunsDecodedCtrl : Prop :=
  ∀ (s : State) (w : Word) (i : Instr), HostWrites 0x00 w s → decodeCtrl w = .ok i →
    step s = exec i { takeMove s with bus := .written }

/-! ### The command frames -/

/-- 41_transport_and_lines R174 and 42_command_codec R214: what each of the ten frames (NULL0 to NULL3, MASK0, MASK1, MODE,
CLINT0, CLINT1, DEADTIME) does in its transfer step, for every answer of the transport. Each completes. -/
def Obligations.FramesTransfer : Prop :=
  ∀ (i : Instr) (b : Byte) (q : Req), frameSpec i = some (b, q) → ∀ s : State, ∃ t, exec i s = .next t ∧
    t.trace = s.trace ++ [(s.env.now, .frame b (nextAnswer b s).res (nextAnswer b s).rx)] ∧
    t.lastXfer = { tx := b, rx := if (nextAnswer b s).res = .success then (nextAnswer b s).rx else 0#8,
                   res := (nextAnswer b s).res, valid := true } ∧
    (∀ k : Fin 4,
      statusGet k t.status =
        (if (nextAnswer b s).res = .success ∧ s.stat.prevReq = reqNumber k then (nextAnswer b s).rx
         else statusGet k s.status) ∧
      (t.stat.snapValid.getLsbD k.val = true ↔
        s.stat.snapValid.getLsbD k.val = true ∨ ((nextAnswer b s).res = .success ∧ s.stat.prevReq = reqNumber k))) ∧
    t.stat.prevReq = (if (nextAnswer b s).res = .success then reqOf b else .unknown) ∧
    t.stat.retries.toNat =
      (if (nextAnswer b s).res = .busy then min 15 (s.stat.retries.toNat + 1) else s.stat.retries.toNat) ∧
    t.seq.lastRes = (nextAnswer b s).res ∧ t.seq.spc = .xUnsel

/-- 42_command_codec section 3 (R215; the register a non-NULL frame requests is the spec's decision D19, marked "from
general knowledge, not in source"): after a `Success`, PREV_REQ names the register the frame requests; after any other
answer it is `Unknown`. -/
def Obligations.FramesRequestNext : Prop :=
  ∀ (i : Instr) (b : Byte) (q : Req), frameSpec i = some (b, q) → ∀ s : State, ∃ t, exec i s = .next t ∧
    ((nextAnswer b s).res = .success → t.stat.prevReq = q) ∧
    ((nextAnswer b s).res ≠ .success → t.stat.prevReq = .unknown)

/-- 42_command_codec section 2 (the frame of R203 to R212): each of the ten frames leaves STATE, BUSY, CMD_LOST, FAULT_AT, CFG_STEP,
RESULT, CFG0, CFG1, every line, the frame list and its counters, the wait, the inputs, the coming moves and the parameters
as they were. The PDC has no data memory. -/
def Obligations.FramesLeaveTheRest : Prop :=
  ∀ i : Instr, isFrame i = true → ∀ s : State, ∃ t, exec i s = .next t ∧
    t = { s with
      stat := { s.stat with prevReq := t.stat.prevReq, snapValid := t.stat.snapValid, retries := t.stat.retries }
      status := t.status
      lastXfer := t.lastXfer
      trace := t.trace
      seq := { s.seq with lastRes := t.seq.lastRes, spc := t.seq.spc }
      env := { s.env with answers := t.env.answers, draws := t.env.draws } }

/-- 41_transport_and_lines R175: LASTXFER after a transfer, with the numbers of its results, and that nothing but a
transfer (and block reset, 10_state R44) writes it. -/
def Obligations.OnlyTransfersWriteLastXfer : Prop :=
  (∀ (i : Instr) (b : Byte) (q : Req) (s : State), frameSpec i = some (b, q) → ∃ t, exec i s = .next t ∧
    t.lastXfer.tx = b ∧
    t.lastXfer.rx = (if (nextAnswer b s).res = .success then (nextAnswer b s).rx else 0#8) ∧
    t.lastXfer.res = (nextAnswer b s).res ∧
    t.lastXfer.valid = true) ∧
  (resCode .success = 0#3 ∧ resCode .busy = 1#3 ∧ resCode .error = 2#3 ∧ resCode .invalidArgument = 3#3 ∧
    resCode .timeout = 4#3) ∧
  (∀ s t : State, NoBlockReset s → step s = .next t → ¬ Scheduled .xXfer s → t.lastXfer = s.lastXfer)

/-- 10_state section 4 (R39) and 42_command_codec section 3: the status registers are written by a transfer only, and
PREV_REQ and SNAPVALID by a transfer, by the first step of INIT and by SHUTDOWN only (and all of them by block reset). -/
def Obligations.OnlyTransfersWriteStatus : Prop :=
  ∀ s t : State, NoBlockReset s → step s = .next t → ¬ Scheduled .xXfer s →
    t.status = s.status ∧
    ((t.stat.prevReq = s.stat.prevReq ∧ t.stat.snapValid = s.stat.snapValid) ∨
     ((Scheduled .bRstAssert s ∨ (s.stat.busy = false ∧ ∃ w, HostWrites 0x00 w s ∧ w.toNat % 8 = 2)) ∧
      t.stat.prevReq = .noReq ∧ t.stat.snapValid = 0#4))

/-! ### The host operations -/

/-- 44_host_operations R301: while BUSY = 1 a write to CTRL sets CMD_LOST and changes nothing else, whatever its word; so
none of NOP, INIT, SHUTDOWN, SEND, READ_STATUS and CLEAR_FAULTS starts inside another. -/
def Obligations.BusyCtrlWriteDropped : Prop :=
  (∀ (i : Instr) (s : State), isFrame i = false → s.stat.busy = true →
    exec i s = .next { s with stat.cmdLost := true }) ∧
  (∀ (w : Word) (s : State), HostWrites 0x00 w s → s.stat.busy = true →
    step s = .next { takeMove s with bus := .written, stat.cmdLost := true })

/-- 44_host_operations section 1 (R300): while BUSY = 0 a write to CTRL is accepted, the event `Host(OP, ARG)` comes first,
and the operation OP names runs in the same step. Either it changes nothing (NOP), or it completes in this step, with
`Done(RESULT)` last (every OP but NOP may), or it starts: BUSY = 1 with RESULT kept and SPC at the first label, B_RST_ASSERT
for INIT and X_SEL for SEND, READ_STATUS and CLEAR_FAULTS. What is started completes in a sequencer step and in no other
(block reset apart). The ignored bits do not matter. -/
def Obligations.IdleCtrlWriteAccepted : Prop :=
  (∀ (w : Word) (s : State), HostWrites 0x00 w s → s.stat.busy = false →
    ∃ t es, step s = .next t ∧
      Adds (.host (w.extractLsb' 0 3) (w.extractLsb' 8 8) :: es) s t ∧
      ((w.toNat % 8 = 0 ∧ t = { takeMove s with bus := .written, trace := t.trace } ∧ es = []) ∨
       (w.toNat % 8 ≠ 0 ∧ t.stat.busy = false ∧ t.seq.spc = .idle ∧ ∃ before, es = before ++ [.done t.result]) ∨
       (t.stat.busy = true ∧ t.result = s.result ∧
        ((w.toNat % 8 = 1 ∧ t.seq.spc = .bRstAssert ∧ t.seq.opKind = .bringup) ∨
         (3 ≤ w.toNat % 8 ∧ w.toNat % 8 ≤ 5 ∧ t.seq.spc = .xSel ∧ t.seq.opKind = .hostop))))) ∧
  (∀ (w : Word) (i : Instr) (s : State), HostWrites 0x00 w s → s.stat.busy = false → decodeCtrl w = .ok i →
    step s = exec i { takeMove s with bus := .written }) ∧
  (∀ (w : Word) (s : State), ctrlWrite w s = ctrlWrite (w &&& 0x0000FF07#32) s) ∧
  (∀ s t : State, NoBlockReset s → step s = .next t → s.stat.busy = true → t.stat.busy = false → nextMove s = .seq)

/-- 44_host_operations R303: NOP while idle records its event and nothing else; while busy it is lost. -/
def Obligations.NopOnlyRecords : Prop :=
  ∀ (arg : Byte) (s : State),
    (s.stat.busy = false → exec (.nop arg) s = .next { s with trace := s.trace ++ [(s.env.now, .host 0#3 arg)] }) ∧
    (s.stat.busy = true → exec (.nop arg) s = .next { s with stat.cmdLost := true })

/-- 44_host_operations section 2 (R302): an idle INIT whose dead time and pin map are right starts the bring-up, from
every state and with no line event yet. -/
def Obligations.InitStartsBringUp : Prop :=
  ∀ (arg : Byte) (s : State), s.stat.busy = false → (cfgDeadtime s.cfg0).toNat ≤ s.params.dtMaxNs →
    s.env.pinmapOk = true →
    exec (.init arg) s = .next { s with
      stat.state := .poweredOff
      stat.busy := true
      seq.opKind := .bringup
      seq.spc := .bRstAssert
      trace := s.trace ++ stamped s.env.now [.host 1#3 arg, .state .poweredOff] }

/-- 44_host_operations section 2 (R302) and 60_exceptions section 3 (R347 (a)): an idle INIT that fails a check ends in
`Faulted` at once with FAULT_AT = `PoweredOff`; the dead-time check comes first; with CS deselected there is no line event. -/
def Obligations.InitChecksInOrder : Prop :=
  ∀ (arg : Byte) (s : State) (code : StatusCode), s.stat.busy = false → s.lines.csSel = false →
    ((s.params.dtMaxNs < (cfgDeadtime s.cfg0).toNat ∧ code = .outOfRange) ∨
     ((cfgDeadtime s.cfg0).toNat ≤ s.params.dtMaxNs ∧ s.env.pinmapOk = false ∧ code = .invalidArgument)) →
    exec (.init arg) s = .next { s with
      stat.faultAt := .poweredOff
      stat.state := .faulted
      stat.busy := false
      result := code
      seq.spc := .idle
      trace := s.trace ++ stamped s.env.now [.host 1#3 arg, .state .poweredOff, .state .faulted, .done code] }

/-- 44_host_operations R304: SHUTDOWN while idle, in every state. -/
def Obligations.ShutdownMakesSafe : Prop :=
  ∀ (arg : Byte) (s : State), s.stat.busy = false →
    exec (.shutdown arg) s = .next { s with
      lines := { rstAsserted := true, en1 := false, en2 := false, csSel := false, ls := false, hs := false }
      stat.prevReq := .noReq
      stat.snapValid := 0#4
      stat.state := .poweredOff
      stat.busy := false
      result := .success
      seq.spc := .idle
      trace := s.trace ++ stamped s.env.now
        [.host 2#3 arg, .line .rst true, .line .en1 false, .line .en2 false, .line .cs false, .line .ls false,
         .line .hs false, .state .poweredOff, .done .success] }

/-- 44_host_operations section 2 (R305): SEND while idle, outside `Active`, of an allowed frame, and of a refused one. -/
def Obligations.SendStartsOrRefuses : Prop :=
  ∀ (b : Byte) (s : State), s.stat.busy = false →
    (s.stat.state ≠ .active → exec (.send b) s = .next { s with
      result := .fail, stat.busy := false, seq.spc := .idle
      trace := s.trace ++ stamped s.env.now [.host 3#3 b, .done .fail] }) ∧
    (s.stat.state = .active → sendAllowed b = true → exec (.send b) s = .next { s with
      stat.busy := true
      seq.opList := [b], seq.opIdx := 0, seq.attempt := 0, seq.opKind := .hostop, seq.spc := .xSel
      trace := s.trace ++ stamped s.env.now [.host 3#3 b] }) ∧
    (s.stat.state = .active → sendAllowed b = false → exec (.send b) s = .next { s with
      result := .invalidArgument, stat.busy := false, seq.spc := .idle
      trace := s.trace ++ stamped s.env.now [.host 3#3 b, .done .invalidArgument] })

/-- 44_host_operations section 2 (R306): READ_STATUS while idle, outside `Active`, with ARG[7:2] = 0 and without. -/
def Obligations.ReadStatusStartsOrRefuses : Prop :=
  ∀ (n : BitVec 2) (hi : BitVec 6) (s : State), s.stat.busy = false →
    (s.stat.state ≠ .active → exec (.readStatus n hi) s = .next { s with
      result := .fail, stat.busy := false, seq.spc := .idle
      trace := s.trace ++ stamped s.env.now [.host 4#3 (hi ++ n), .done .fail] }) ∧
    (s.stat.state = .active → hi = 0#6 → exec (.readStatus n hi) s = .next { s with
      stat.busy := true
      seq.opList := [n.setWidth 8, 0x00#8], seq.opIdx := 0, seq.attempt := 0, seq.opKind := .hostop, seq.spc := .xSel
      trace := s.trace ++ stamped s.env.now [.host 4#3 (hi ++ n)] }) ∧
    (s.stat.state = .active → hi ≠ 0#6 → exec (.readStatus n hi) s = .next { s with
      result := .invalidArgument, stat.busy := false, seq.spc := .idle
      trace := s.trace ++ stamped s.env.now [.host 4#3 (hi ++ n), .done .invalidArgument] })

/-- 44_host_operations section 2 (R307): CLEAR_FAULTS while idle, outside `Active` and in it. -/
def Obligations.ClearFaultsStartsOrRefuses : Prop :=
  ∀ (c0 c1 : Nibble) (s : State), s.stat.busy = false →
    (s.stat.state ≠ .active → exec (.clearFaults c0 c1) s = .next { s with
      result := .fail, stat.busy := false, seq.spc := .idle
      trace := s.trace ++ stamped s.env.now [.host 5#3 (c1 ++ c0), .done .fail] }) ∧
    (s.stat.state = .active → exec (.clearFaults c0 c1) s = .next { s with
      stat.busy := true
      seq.opList := [0x60#8 ||| c0.setWidth 8, 0x70#8 ||| c1.setWidth 8]
      seq.opIdx := 0, seq.attempt := 0, seq.opKind := .hostop, seq.spc := .xSel
      trace := s.trace ++ stamped s.env.now [.host 5#3 (c1 ++ c0)] })

/-- 44_host_operations R308: an idle CTRL write with OP 6 or 7, in every state. -/
def Obligations.ReservedOpInvalid : Prop :=
  ∀ (w : Word) (s : State), HostWrites 0x00 w s → s.stat.busy = false → 6 ≤ w.toNat % 8 →
    step s = .next { takeMove s with
      bus := .written
      result := .invalidArgument
      stat.busy := false
      seq.spc := .idle
      trace := s.trace ++ stamped s.env.now [.host (w.extractLsb' 0 3) (w.extractLsb' 8 8), .done .invalidArgument] }

/-- 44_host_operations section 2 (R305 to R307, R309, R313 read with 43_bringup_fsm R253): SEND, READ_STATUS and CLEAR_FAULTS
in `Active`, every frame answered `Success`, run to `Done(Success)` with each frame in its own bracket, in order. The plan
of moves and answers is the model's way to write the schedule (log 1, log 2). -/
def Obligations.ServiceOperationsComplete : Prop :=
  ∀ (i : Instr) (w : Word) (frames rs : List Byte) (moves : List Move) (answers : List Answer) (s : State),
    serviceSpec i = some (w, frames) → rs.length = frames.length →
    s.env.rstN = true → s.env.hostEnded = false → s.stat.busy = false → s.stat.state = .active →
    s.env.moves = .host (.write s.params.baseAddr 4 w) :: (List.replicate (5 * frames.length + 1) Move.seq ++ moves) →
    s.env.answers = rs.map (fun r => ⟨.success, r⟩) ++ answers →
    ∃ t, runSteps (5 * frames.length + 2) s = some t ∧
      t.stat.state = .active ∧ t.stat.busy = false ∧ t.result = .success ∧ t.stat.retries = 0#4 ∧
      t.lines = { s.lines with csSel := false } ∧ t.cfg0 = s.cfg0 ∧ t.cfg1 = s.cfg1 ∧
      t.env.moves = moves ∧ t.env.answers = answers ∧
      Adds ([.host (w.extractLsb' 0 3) (w.extractLsb' 8 8)] ++ (frames.zip rs).flatMap bracketEvents ++ [.done .success]) s t

/-- 44_host_operations section 2 (R306): after a successful READ_STATUS n, STATUS[n] is the byte received with the NULL0
frame, the byte received with the NULLn frame went to the register requested before, and PREV_REQ = S0. -/
def Obligations.ReadStatusFetchesRegister : Prop :=
  ∀ (n : Fin 4) (r1 r2 : Byte) (moves : List Move) (answers : List Answer) (s : State),
    s.env.rstN = true → s.env.hostEnded = false → s.stat.busy = false → s.stat.state = .active →
    s.env.moves =
      .host (.write s.params.baseAddr 4 (BitVec.ofNat 32 (n.val * 0x100 + 4))) :: (List.replicate 11 Move.seq ++ moves) →
    s.env.answers = ⟨.success, r1⟩ :: ⟨.success, r2⟩ :: answers →
    ∃ t, runSteps 12 s = some t ∧ t.result = .success ∧ t.stat.busy = false ∧
      statusGet n t.status = r2 ∧ t.stat.snapValid.getLsbD n.val = true ∧ t.stat.prevReq = .s0 ∧
      ∀ k : Fin 4, k ≠ n →
        statusGet k t.status = (if s.stat.prevReq = reqNumber k then r1 else statusGet k s.status)

/-! ### The sequencer -/

/-- 40_wait_service R150, with the counter step of 4 cycles the rule is written with: a step that brings SPC to a label
with a wait starts that wait and loads the counter with WaitCycles(f, d) / 4; before the wait is over the sequencer holds;
from then on, at any time, its step is enabled. -/
def Obligations.AwaitElapsed : Prop :=
  (∀ (s t : State) (d : Nat), step s = .next t → t.seq.spc ≠ s.seq.spc →
    waitOf t.params t.cfg0 t.seq.spc = some d → t.params.waitStepCycles = 4 →
    WaitBegins d s t ∧ t.seq.waitCount = waitCycles s.env.sysclkHz.toNat d / 4) ∧
  (∀ (s : State) (l : Label) (d : Nat), Scheduled l s → waitOf s.params s.cfg0 l = some d →
    s.env.now < s.seq.waitStart + s.seq.waitD → step s = .next (takeMove s)) ∧
  (∀ (s : State) (l : Label) (d : Nat), Scheduled l s → waitOf s.params s.cfg0 l = some d →
    s.seq.waitStart + s.seq.waitD ≤ s.env.now → step s = .next (labelStep (takeMove s)))

/-- 40_wait_service R157: the waits of the sequencer, their durations, and their default durations. -/
def Obligations.WaitsOfTheSequencer : Prop :=
  (∀ (p : Params) (c : Word),
    waitOf p c .bRstWait = some p.tRstNs ∧
    waitOf p c .bEn1 = some p.tRstToEnNs ∧
    waitOf p c .bEn2 = some p.tEn1ToEn2Ns ∧
    waitOf p c .bEnWait = some p.tEnNs ∧
    waitOf p c .bLsHold = some p.tLsHoldNs ∧
    waitOf p c .bHsHold = some (max p.tHsBaseNs ((cfgDeadtime c).toNat + p.tHsMarginNs)) ∧
    waitOf p c .xBackoff = some p.tBackoffNs ∧
    waitOf p c .bCalHold = some (p.calFactor * (cfgDeadtime c).toNat) ∧
    ∀ l, waitOf p c l ≠ none →
      l = .bRstWait ∨ l = .bEn1 ∨ l = .bEn2 ∨ l = .bEnWait ∨ l = .bLsHold ∨ l = .bHsHold ∨ l = .xBackoff ∨ l = .bCalHold) ∧
  (∀ c : Word, (cfgDeadtime c).toNat = 500 →
    waitOf Params.default c .bRstWait = some 2500000 ∧ waitOf Params.default c .bEn1 = some 0 ∧
    waitOf Params.default c .bEn2 = some 0 ∧ waitOf Params.default c .bEnWait = some 1000 ∧
    waitOf Params.default c .bLsHold = some 1000 ∧ waitOf Params.default c .bHsHold = some 16000 ∧
    waitOf Params.default c .xBackoff = some 10000 ∧ waitOf Params.default c .bCalHold = some 8000)

/-- 40_wait_service R151: WaitCycles(f, d) is the formula given, it is a positive multiple of 4 that is enough for `d`, and
the least such, so it is 4 where f or d is 0. -/
def Obligations.WaitCyclesIsTheLeast : Prop :=
  ∀ f d : Nat,
    waitCycles f d = max (4 * (((f * d + 999999999) / 1000000000 + 3) / 4)) 4 ∧
    waitCycles f d % 4 = 0 ∧ 4 ≤ waitCycles f d ∧ f * d ≤ waitCycles f d * 1000000000 ∧
    (∀ n, n % 4 = 0 → 0 < n → f * d ≤ n * 1000000000 → waitCycles f d ≤ n) ∧
    ((f = 0 ∨ d = 0) → waitCycles f d = 4)

/-- 43_bringup_fsm R253: the labels of the transfer procedure, X_RESULT apart. -/
def Obligations.TransferProcedureSteps : Prop :=
  (∀ s : State, Scheduled .xSel s → step s = .next { takeMove s with
    seq.attempt := s.seq.attempt + 1
    stat.retries := if s.seq.attempt + 1 = 1 then 0#4 else s.stat.retries
    stat.cfgStep := if s.seq.opKind = .bringup then BitVec.ofNat 2 s.seq.opIdx else s.stat.cfgStep
    lines.csSel := true
    trace := s.trace ++ [(s.env.now, .line .cs true)]
    seq.spc := .xXfer }) ∧
  (∀ (s : State) (b : Byte) (i : Instr), Scheduled .xXfer s → s.seq.opList[s.seq.opIdx]? = some b →
    decodeFrame b = .ok i →
    ∃ t, step s = .next t ∧ exec i (takeMove s) = .next t ∧ t.lastXfer.tx = b ∧ t.seq.lastRes = t.lastXfer.res ∧
      t.seq.spc = .xUnsel) ∧
  (∀ s : State, Scheduled .xUnsel s → step s = .next { takeMove s with
    lines.csSel := false
    trace := s.trace ++ [(s.env.now, .line .cs false)]
    seq.spc := .xResult }) ∧
  (∀ s : State, Due .xBackoff s → step s = .next { takeMove s with seq.spc := .xSel }) ∧
  (∀ s : State, Scheduled .xNext s → step s = .next { takeMove s with
    seq.opIdx := s.seq.opIdx + 1
    seq.attempt := 0
    seq.spc :=
      if s.seq.opIdx + 1 < s.seq.opList.length then .xSel
      else if s.seq.opKind = .bringup then .bCalSel else .hDone })

/-- 43_bringup_fsm R254: the handling of LASTRES at X_RESULT. The fault entry is 60_exceptions R343, its own statement. -/
def Obligations.ResultHandling : Prop :=
  ∀ s : State, Scheduled .xResult s →
    (s.seq.lastRes = .success → step s = .next { takeMove s with seq.spc := .xNext }) ∧
    (s.seq.lastRes = .busy → s.seq.attempt ≤ s.params.busyRetryMax →
      ∃ t, step s = .next t ∧ t.seq.spc = .xBackoff ∧ WaitBegins s.params.tBackoffNs s t ∧
        t.stat = s.stat ∧ t.lines = s.lines ∧ t.trace = s.trace ∧ KeepsRegisters s t ∧ KeepsFrameList s t) ∧
    (s.seq.lastRes = .busy → s.params.busyRetryMax < s.seq.attempt →
      step s = .next (raiseFault .fail (takeMove s))) ∧
    (s.seq.lastRes = .error → step s = .next (raiseFault .fail (takeMove s))) ∧
    (s.seq.lastRes = .invalidArgument → step s = .next (raiseFault .invalidArgument (takeMove s))) ∧
    (s.seq.lastRes = .timeout → step s = .next (raiseFault .timeout (takeMove s)))

/-- 60_exceptions R343: the fault entry, and that the transfer procedure enters it with CS already deselected. -/
def Obligations.FaultEntry : Prop :=
  (∀ (code : StatusCode) (s : State), raiseFault code s = { s with
    stat.faultAt := s.stat.state
    lines.csSel := false
    stat.state := .faulted
    result := code
    stat.busy := false
    seq.spc := .idle
    trace := s.trace ++ stamped s.env.now
      ((if s.lines.csSel = true then [.line .cs false] else []) ++ [.state .faulted, .done code]) }) ∧
  (∀ s : State, StateInv s → Scheduled .xResult s → s.lines.csSel = false)

/-- 43_bringup_fsm R255: B_RST_ASSERT, and the start of the reset wait. -/
def Obligations.ResetPulseStarts : Prop :=
  ∀ s : State, Scheduled .bRstAssert s → ∃ t, step s = .next t ∧
    t.lines = { rstAsserted := true, en1 := false, en2 := false, csSel := false, ls := false, hs := false } ∧
    t.stat = { s.stat with prevReq := .noReq, snapValid := 0#4, cfgStep := 0#2, retries := 0#4, state := .resetAsserted } ∧
    Adds [.line .rst true, .line .en1 false, .line .en2 false, .line .cs false, .line .ls false, .line .hs false,
      .state .resetAsserted] s t ∧
    t.seq.spc = .bRstWait ∧ WaitBegins s.params.tRstNs s t ∧ KeepsRegisters s t ∧ KeepsFrameList s t

/-- 43_bringup_fsm R256: the reset pulse is held for T_RST_NS from B_RST_ASSERT, then RST is released. -/
def Obligations.ResetPulseHeldThenReleased : Prop :=
  (∀ s : State, StateInv s → Scheduled .bRstWait s → s.env.now < s.seq.waitStart + s.params.tRstNs →
    s.lines.rstAsserted = true ∧ step s = .next (takeMove s)) ∧
  (∀ s : State, StateInv s → Scheduled .bRstWait s → s.seq.waitStart + s.params.tRstNs ≤ s.env.now →
    ∃ t, step s = .next t ∧
      t.lines = { s.lines with rstAsserted := false } ∧ t.stat = { s.stat with state := .resetReleased } ∧
      Adds [.line .rst false, .state .resetReleased] s t ∧
      t.seq.spc = .bEn1 ∧ WaitBegins s.params.tRstToEnNs s t ∧ KeepsRegisters s t ∧ KeepsFrameList s t)

/-- 43_bringup_fsm R257 and R258: EN1, then in a later step EN2, each once its wait is over; no step ever drives EN2 on
unless EN1 already is. -/
def Obligations.EnablesInOrder : Prop :=
  (∀ s : State, Due .bEn1 s → ∃ t, step s = .next t ∧
    t.lines = { s.lines with en1 := true } ∧ t.stat = s.stat ∧ Adds [.line .en1 true] s t ∧
    t.seq.spc = .bEn2 ∧ WaitBegins s.params.tEn1ToEn2Ns s t ∧ KeepsRegisters s t ∧ KeepsFrameList s t) ∧
  (∀ s : State, Due .bEn2 s → ∃ t, step s = .next t ∧
    t.lines = { s.lines with en2 := true } ∧ t.stat = s.stat ∧ Adds [.line .en2 true] s t ∧
    t.seq.spc = .bEnWait ∧ WaitBegins s.params.tEnNs s t ∧ KeepsRegisters s t ∧ KeepsFrameList s t) ∧
  (∀ (s t : State) (es : List Event), StateInv s → step s = .next t → Adds es s t → Event.line .en2 true ∈ es →
    s.lines.en1 = true ∧ s.lines.rstAsserted = false ∧ Event.line .en1 true ∉ es) ∧
  (∀ (s : State) (l : Label), (l = .bEn1 ∨ l = .bEn2) → Scheduled l s →
    s.env.now < s.seq.waitStart + s.seq.waitD → step s = .next (takeMove s))

/-- 43_bringup_fsm R259 and R260: the low-side pulse begins when T_EN_NS is over and ends when T_LS_HOLD_NS is; the step that
ends it begins the high-side pulse and its wait. -/
def Obligations.LowSidePulse : Prop :=
  (∀ s : State, Due .bEnWait s → ∃ t, step s = .next t ∧
    t.lines = { s.lines with ls := true } ∧ t.stat = { s.stat with state := .lowSideToggling } ∧
    Adds [.state .lowSideToggling, .line .ls true] s t ∧
    t.seq.spc = .bLsHold ∧ WaitBegins s.params.tLsHoldNs s t ∧ KeepsRegisters s t ∧ KeepsFrameList s t) ∧
  (∀ s : State, Due .bLsHold s → ∃ t, step s = .next t ∧
    t.lines = { s.lines with ls := false, hs := true } ∧ t.stat = { s.stat with state := .highSideToggling } ∧
    Adds [.line .ls false, .state .highSideToggling, .line .hs true] s t ∧
    t.seq.spc = .bHsHold ∧
    WaitBegins (max s.params.tHsBaseNs ((cfgDeadtime s.cfg0).toNat + s.params.tHsMarginNs)) s t ∧
    KeepsRegisters s t ∧ KeepsFrameList s t) ∧
  (∀ (s : State) (l : Label), (l = .bEnWait ∨ l = .bLsHold) → Scheduled l s →
    s.env.now < s.seq.waitStart + s.seq.waitD → step s = .next (takeMove s))

/-- 43_bringup_fsm R262: B_HS_HOLD ends the high-side pulse when its wait is over and starts the four configuration frames. -/
def Obligations.ConfigurationStarts : Prop :=
  (∀ s : State, Due .bHsHold s → step s = .next { takeMove s with
    lines.hs := false
    stat.state := .configuring
    seq.opList := cfgFrames s.params s.cfg0
    seq.opIdx := 0
    seq.attempt := 0
    seq.opKind := .bringup
    seq.spc := .xSel
    trace := s.trace ++ stamped s.env.now [.line .hs false, .state .configuring] }) ∧
  (∀ s : State, Scheduled .bHsHold s → s.env.now < s.seq.waitStart + s.seq.waitD → step s = .next (takeMove s))

/-- 43_bringup_fsm section 3 (R263) and 30_encoding R114 (the MODE bit numbers are the spec's decision D22, marked as general
knowledge): with the default bit numbers the four frames are MASK0, MASK1, MODE and DEADTIME with the payloads of CFG0, and
for all legal bit numbers each of them is a legal frame. -/
def Obligations.CfgFramesFromCfg0 : Prop :=
  (∀ c : Word, cfgFrames Params.default c =
    [BitVec.ofNat 8 (0x20 + c.toNat % 16), BitVec.ofNat 8 (0x30 + c.toNat / 16 % 16),
     BitVec.ofNat 8 (0x40 + 8 * (c.toNat / 1024 % 2) + 2 * (c.toNat / 512 % 2) + c.toNat / 256 % 2),
     BitVec.ofNat 8 (0x80 + if c.toNat / 65536 = 0 then 0 else 1)]) ∧
  (∀ (p : Params) (c : Word), p.wf = true → ∀ b ∈ cfgFrames p c, ∃ i, decodeFrame b = .ok i)

/-- 43_bringup_fsm section 3 (R264, R265; the pulse as such is the spec's decision D25, marked as general knowledge): with a dead
time of 0 there is no pulse; else CS is selected for CAL_FACTOR times the dead time, and no byte is sent. -/
def Obligations.CalibrationPulse : Prop :=
  (∀ s : State, Scheduled .bCalSel s → cfgDeadtime s.cfg0 = 0#16 →
    step s = .next { takeMove s with seq.spc := .bDone }) ∧
  (∀ s : State, Scheduled .bCalSel s → cfgDeadtime s.cfg0 ≠ 0#16 → ∃ t, step s = .next t ∧
    t.lines = { s.lines with csSel := true } ∧ t.stat = s.stat ∧ Adds [.line .cs true] s t ∧
    t.seq.spc = .bCalHold ∧ WaitBegins (s.params.calFactor * (cfgDeadtime s.cfg0).toNat) s t ∧
    KeepsRegisters s t ∧ KeepsFrameList s t) ∧
  (∀ s : State, StateInv s → Scheduled .bCalHold s →
    s.env.now < s.seq.waitStart + s.params.calFactor * (cfgDeadtime s.cfg0).toNat → step s = .next (takeMove s)) ∧
  (∀ s : State, StateInv s → Scheduled .bCalHold s →
    s.seq.waitStart + s.params.calFactor * (cfgDeadtime s.cfg0).toNat ≤ s.env.now →
    step s = .next { takeMove s with
      lines.csSel := false
      seq.spc := .bDone
      trace := s.trace ++ [(s.env.now, .line .cs false)] })

/-- 43_bringup_fsm R266 and 44_host_operations R309: B_DONE and H_DONE end the operation with `Success`. -/
def Obligations.OperationsEndInSuccess : Prop :=
  (∀ s : State, Scheduled .bDone s → step s = .next { takeMove s with
    stat.state := .active
    result := .success
    stat.busy := false
    seq.spc := .idle
    trace := s.trace ++ stamped s.env.now [.state .active, .done .success] }) ∧
  (∀ s : State, Scheduled .hDone s → step s = .next { takeMove s with
    result := .success
    stat.busy := false
    seq.spc := .idle
    trace := s.trace ++ stamped s.env.now [.done .success] }) ∧
  (∀ s : State, StateInv s → Scheduled .hDone s → s.stat.state = .active)

/-! ### The register window -/

/-- 10_state R24, with the codes of STATE (R25) and PREV_REQ (R26) written out: the word a read of STAT returns, its value at
reset, and what a write does. -/
def Obligations.StatRegister : Prop :=
  (∀ s : State, HostReads 0x04 s →
    step s = .next { takeMove s with bus := .data (BitVec.ofNat 32 (statNumber s.stat)) }) ∧
  (stateCode .poweredOff = 0#3 ∧ stateCode .resetAsserted = 1#3 ∧ stateCode .resetReleased = 2#3 ∧
    stateCode .lowSideToggling = 3#3 ∧ stateCode .highSideToggling = 4#3 ∧ stateCode .configuring = 5#3 ∧
    stateCode .active = 6#3 ∧ stateCode .faulted = 7#3) ∧
  (reqCode .noReq = 0#3 ∧ reqCode .s0 = 1#3 ∧ reqCode .s1 = 2#3 ∧ reqCode .s2 = 3#3 ∧ reqCode .s3 = 4#3 ∧
    reqCode .unknown = 5#3) ∧
  statNumber State.reset.stat = 0 ∧
  (∀ (v : Word) (s : State), HostWrites 0x04 v s →
    step s = .next { takeMove s with bus := .written, stat.cmdLost := s.stat.cmdLost && !v.getLsbD 4 })

/-- 10_state section 2 (R22 to R32), 20_memory section 2 (R89) and the status codes of 60_exceptions section 1 (R340), written
out: a read of CTRL, RESULT, CFG0, CFG1, SNAP, DTCODE or LASTXFER returns that register's word and changes nothing, and a
write to RESULT, SNAP, DTCODE or LASTXFER is ignored. -/
def Obligations.ReadsReturnRegisters : Prop :=
  (∀ (off v : Nat) (s : State), HostReads off s → readNumber s off = some v →
    step s = .next { takeMove s with bus := .data (BitVec.ofNat 32 v) }) ∧
  (statusCodeNum .success = 0#16 ∧ statusCodeNum .fail = 1#16 ∧ statusCodeNum .readOnly = 2#16 ∧
    statusCodeNum .outOfRange = 3#16 ∧ statusCodeNum .invalidArgument = 4#16 ∧ statusCodeNum .timeout = 5#16 ∧
    statusCodeNum .noTransferInProgress = 6#16) ∧
  (∀ (off : Nat) (v : Word) (s : State), (off = 0x08 ∨ off = 0x14 ∨ off = 0x18 ∨ off = 0x1C) → HostWrites off v s →
    step s = .next { takeMove s with bus := .written })

/-- 20_memory R81 and R83: an access in the window that is not 32 bits wide, not aligned, or at an offset from 0x20 to 0x3F
is a bus error and changes no state of the PDC. -/
def Obligations.BadAccessesAreBusErrors : Prop :=
  ∀ (s : State) (off width : Nat) (v : Word),
    (nextMove s = .host (.read (s.params.baseAddr + off) width) ∨
     nextMove s = .host (.write (s.params.baseAddr + off) width v)) →
    s.env.hostEnded = false → off < 64 → (width ≠ 4 ∨ off % 4 ≠ 0 ∨ 0x20 ≤ off) →
    step s = .next { takeMove s with bus := .error }

/-- 44_host_operations R310: writes of CFG0 and CFG1. -/
def Obligations.ConfigurationWrites : Prop :=
  (∀ (off : Nat) (v : Word) (s : State), (off = 0x0C ∨ off = 0x10) → HostWrites off v s → s.stat.busy = true →
    step s = .next { takeMove s with bus := .written, stat.cmdLost := true }) ∧
  (∀ (off : Nat) (v : Word) (s : State), (off = 0x0C ∨ off = 0x10) → HostWrites off v s → s.stat.busy = false →
    s.stat.state ≠ .poweredOff → s.stat.state ≠ .faulted →
    step s = .next { takeMove s with bus := .written, result := .readOnly }) ∧
  (∀ (v : Word) (s : State), HostWrites 0x0C v s → s.stat.busy = false →
    (s.stat.state = .poweredOff ∨ s.stat.state = .faulted) →
    step s = .next { takeMove s with
      bus := .written
      cfg0 := v &&& 0xFFFF0FFF#32
      trace := s.trace ++ (if v.getLsbD 11 = s.cfg0.getLsbD 11 then [] else [(s.env.now, .line .cs false)]) }) ∧
  (∀ (v : Word) (s : State), HostWrites 0x10 v s → s.stat.busy = false →
    (s.stat.state = .poweredOff ∨ s.stat.state = .faulted) →
    step s = .next { takeMove s with bus := .written, cfg1 := v })

/-! ### Codec and pins -/

/-- 42_command_codec R218: DtEncode at 17 MHz, its corner values, and that it is the nearest tick count below saturation. -/
def Obligations.DtEncodeNearest : Prop :=
  (∀ t : Nat, t < 65536 → dtEncode 17000000 t = min 255 ((t * 17 + 500) / 1000)) ∧
  (∀ t : Nat, t < 15030 → 17 * t < 1000 * dtEncode 17000000 t + 500 ∧ 1000 * dtEncode 17000000 t ≤ 17 * t + 500) ∧
  (∀ t : Nat, 14971 ≤ t → dtEncode 17000000 t = 255) ∧
  dtEncode 17000000 0 = 0 ∧ dtEncode 17000000 29 = 0 ∧ dtEncode 17000000 30 = 1 ∧ dtEncode 17000000 15000 = 255 ∧
  dtEncode 17000000 500 = 9

/-- 42_command_codec section 4 (R219, R220): decoding the encoded dead time is within half a tick of it. -/
def Obligations.DeadTimeRoundTrip : Prop :=
  (∀ c : Nat, dtDecode 17000000 c = (c : Rat) * 1000 / 17) ∧
  (∀ t : Nat, t ≤ 15000 →
    dtDecode 17000000 (dtEncode 17000000 t) - (t : Rat) ≤ 500 / 17 ∧
    (t : Rat) - dtDecode 17000000 (dtEncode 17000000 t) ≤ 500 / 17)

/-- 42_command_codec R216 and R217: register 0 has eight flags, registers 1 to 3 are opaque. -/
def Obligations.StatusDecoding : Prop :=
  (∀ b : Byte, decodeStatus 0 b = .flags
    { overTemperature := b.toNat % 2 == 1, desaturation := b.toNat / 2 % 2 == 1,
      underVoltage := b.toNat / 4 % 2 == 1, overCurrent := b.toNat / 8 % 2 == 1,
      phaseError := b.toNat / 16 % 2 == 1, frameError := b.toNat / 32 % 2 == 1,
      writeError := b.toNat / 64 % 2 == 1, resetDetected := b.toNat / 128 % 2 == 1 }) ∧
  (∀ (k : Fin 4) (b : Byte), k ≠ 0 → decodeStatus k b = .opaqueByte b)

/-- 10_state R33 and R34: the pins' levels from the line bits. -/
def Obligations.PinLevels : Prop :=
  ∀ s : State,
    rstO s = (s.lines.rstAsserted != s.params.rstActiveLow) ∧
    en1O s = s.lines.en1 ∧ en2O s = s.lines.en2 ∧
    csO s = (if s.cfg0.getLsbD 11 then s.lines.csSel else !s.lines.csSel) ∧
    lsO s = (if s.lines.ls then 0b111#3 else 0b000#3) ∧
    hsO s = (if s.lines.hs then 0b111#3 else 0b000#3)

/-! ### Reset and the inputs -/

/-- 10_state R44: the values block reset gives, with the default parameters, WAIT_START and WAIT_D apart ("unspecified"):
in the state after reset, and after any step in which `rst_n` goes low. -/
def Obligations.ResetValues : Prop :=
  ResetFields State.reset ∧
  (∀ s : State, nextMove s = .rst false → s.params = Params.default → ∃ t, step s = .next t ∧ ResetFields t)

/-- 70_reset_and_hazards section 1 (R380; that a host access in block reset is answered as a bus error, and that the trace,
the time and the inputs are kept, are the model's choices, log 13 and log 14): `rst_n` low gives every register its reset
value and holds it there, with no event; when it returns to 1 only that input changes. WAIT_START, WAIT_D and the delay
unit's counter, to which the spec gives no reset value (log 6, log 7), are left free. -/
def Obligations.BlockResetHolds : Prop :=
  (∀ s : State, nextMove s = .rst false →
    ∃ t, step s = .next t ∧ AtResetValues t ∧ t.trace = s.trace ∧ t.bus = s.bus ∧ t.params = s.params ∧
      t.env = { (takeMove s).env with rstN := false }) ∧
  (∀ s t : State, StateInv s → s.env.rstN = false → nextMove s ≠ .rst true → step s = .next t →
    AtResetValues t ∧ t.trace = s.trace ∧ t.params = s.params ∧ t.env.rstN = false ∧
      (t.bus = s.bus ∨ t.bus = .error)) ∧
  (∀ s : State, nextMove s = .rst true → step s = .next { takeMove s with env.rstN := true })

/-- 40_wait_service section 1 (R152, R153) and 10_state section 3 (R35); the moves are the model's way to write them (log 1):
time, the two inputs, the end of the host's accesses (log 29) and the block clock change only themselves, the clock only the delay unit's counter, which no rule
lets the host see and no step waits for (log 7). -/
def Obligations.InputsChangeOnlyThemselves : Prop :=
  (∀ (dt : Nat) (s : State), nextMove s = .advance dt → step s = .next { takeMove s with env.now := s.env.now + dt }) ∧
  (∀ (hz : BitVec 32) (s : State), nextMove s = .sysclk hz → step s = .next { takeMove s with env.sysclkHz := hz }) ∧
  (∀ (ok : Bool) (s : State), nextMove s = .pinmap ok → step s = .next { takeMove s with env.pinmapOk := ok }) ∧
  (∀ s : State, nextMove s = .hostEnds → step s = .next { takeMove s with env.hostEnded := true }) ∧
  (∀ s : State, nextMove s = .clock → ∃ t, step s = .next t ∧
    t = { takeMove s with seq.waitCount := t.seq.waitCount, seq.waitPhase := t.seq.waitPhase } ∧
    t.seq.waitCount ≤ s.seq.waitCount ∧ s.seq.waitCount ≤ t.seq.waitCount + 1 ∧
    (0 < s.seq.waitCount → s.seq.waitPhase + 1 < s.params.waitStepCycles →
      t.seq.waitCount = s.seq.waitCount ∧ t.seq.waitPhase = s.seq.waitPhase + 1) ∧
    (0 < s.seq.waitCount → s.params.waitStepCycles ≤ s.seq.waitPhase + 1 →
      t.seq.waitCount + 1 = s.seq.waitCount ∧ t.seq.waitPhase = 0))

/-! ### Rules of the whole machine -/

/-- The invariant of the model (Safety.lean cites the rule of each part) holds after reset. -/
def Obligations.InvariantAtReset : Prop := StateInv State.reset

/-- The invariant of the model is kept by every step, from every state that meets it: SPC = IDLE exactly when BUSY = 0
(10_state R36), STATE, lines, CS, attempts, RETRIES, CFG_STEP and the wait fit the label, EN1 leads EN2, LS and HS are never
on together, CFG0's reserved bits are 0, the trace is in time order, and block reset holds every register. -/
def Obligations.EveryStepKeepsInvariant : Prop :=
  ∀ s t : State, StateInv s → step s = .next t → StateInv t

/-- 20_memory section 1 (R84): from every state that meets the invariant the model goes on: no step faults and none is
refused, because the sequencer always has a legal frame to send at X_XFER. -/
def Obligations.NoStepStops : Prop := ∀ s : State, StateInv s → ∃ t, step s = .next t

/-- 43_bringup_fsm R267: every change of STATE is an arc of the table, made by the agent and the step the table names. -/
def Obligations.StateChangesFollowTheTable : Prop :=
  ∀ s t : State, StateInv s → NoBlockReset s → step s = .next t → t.stat.state ≠ s.stat.state →
    arcMove s s.stat.state t.stat.state

/-- 20_memory section 3 (R95) and 44_host_operations section 3: the configuration never changes during an operation or in a
state other than `PoweredOff` and `Faulted`; and where it changes, its reserved bits stay 0. -/
def Obligations.ConfigurationLocked : Prop :=
  ∀ s t : State, NoBlockReset s → step s = .next t → (t.cfg0 ≠ s.cfg0 ∨ t.cfg1 ≠ s.cfg1) →
    s.stat.busy = false ∧ (s.stat.state = .poweredOff ∨ s.stat.state = .faulted) ∧
    (t.cfg0 ≠ s.cfg0 → t.cfg0 &&& 0x0000F000#32 = 0#32)

/-- 60_exceptions section 4 (R349), 43_bringup_fsm section 1 (R251) and 10_state section 2 (R27): RESULT does not change while
BUSY stays 1; the step that takes BUSY from 1 to 0 records `Done(code)` last, leaves that code in RESULT and SPC at IDLE.
70_reset_and_hazards section 5 (R397; the mark of the host's last access is the model's, log 29): from a state in which the run
is over, every step leaves it over and its observation as it is. -/
def Obligations.CompletionIsSignalled : Prop :=
  (∀ s t : State, NoBlockReset s → step s = .next t → s.stat.busy = true →
    (t.stat.busy = true ∧ t.result = s.result) ∨
    (t.stat.busy = false ∧ t.seq.spc = .idle ∧ ∃ es, Adds (es ++ [.done t.result]) s t)) ∧
  (∀ s t : State, NoBlockReset s → step s = .next t → runOver s = true → runOver t = true ∧ observe t = observe s)

/-- 20_memory section 4 (R97), 41_transport_and_lines section 1 (R170) and 43_bringup_fsm section 1 (R252): the events a step
adds, all stamped with its time, account for every line and for STATE: replayed over the lines and STATE before the step they
give those after it. -/
def Obligations.TraceExplainsLinesAndState : Prop :=
  ∀ s t : State, StateInv s → NoBlockReset s → step s = .next t →
    ∃ es, Adds es s t ∧ t.lines = replayLines es s.lines ∧ t.stat.state = replayState es s.stat.state

/-- 20_memory R84 and 41_transport_and_lines section 2 (R181): a frame event is recorded only by the sequencer at X_XFER, alone
in its step, with CS selected before and after, and its byte is a legal frame. -/
def Obligations.FramesAreLegalAndBracketed : Prop :=
  ∀ (s t : State) (es : List Event) (b : Byte) (res : XferResult) (rx : Byte),
    StateInv s → step s = .next t → Adds es s t → Event.frame b res rx ∈ es →
    Scheduled .xXfer s ∧ es = [.frame b res rx] ∧ reservedByte b = false ∧
    s.lines.csSel = true ∧ t.lines.csSel = true

/-- 44_host_operations section 1 (R301) and 20_memory section 3 (R92): whatever the host does while an operation runs, it
changes no more of the PDC than CMD_LOST. -/
def Obligations.HostCannotDisturbOperation : Prop :=
  ∀ (s : State) (a : HostAccess), nextMove s = .host a → s.stat.busy = true →
    ∃ t, step s = .next t ∧ t = { takeMove s with bus := t.bus, stat.cmdLost := t.stat.cmdLost }

/-- 10_state section 2 (R24) and 44_host_operations R301, R310: CMD_LOST is set by a write to CTRL, CFG0 or CFG1 while BUSY = 1 and
by nothing else, and cleared by a write of STAT with bit 4 set (or by block reset) and by nothing else. -/
def Obligations.CmdLostIsSticky : Prop :=
  ∀ s t : State, NoBlockReset s → step s = .next t → t.stat.cmdLost ≠ s.stat.cmdLost →
    (t.stat.cmdLost = true ∧ s.stat.busy = true ∧
      ∃ off w, HostWrites off w s ∧ (off = 0x00 ∨ off = 0x0C ∨ off = 0x10)) ∨
    (t.stat.cmdLost = false ∧ ∃ w, HostWrites 0x04 w s ∧ w.getLsbD 4 = true)

/-- 42_command_codec section 3 (R217) and 70_reset_and_hazards section 3 (R391): the PDC never acts on what a status register
holds: two states that differ only in STATUS and in what the host's last access returned step to states that again differ
only in these, so the relation is kept along a run. -/
def Obligations.StatusNeverSteers : Prop :=
  ∀ (s t : State) (f : StatusFile) (r : BusResp), step s = .next t →
    ∃ g r', step { s with status := f, bus := r } = .next { t with status := g, bus := r' }

/-- 43_bringup_fsm section 4 (R269, R270), with the spec's decisions D22 and D25 (general knowledge) as parameters; that
PREV_REQ is S0 at the end and that STATUS[0] and SNAPVALID take the bytes received after the first rest on the spec's decision
D19 (general knowledge: a non-NULL frame requests register 0, log 19); and the plan of moves and answers as the model's way to write the schedule (log 1, log 2): from every idle state in which INIT is
accepted, a bring-up at its earliest, all frames answered `Success`, ends in `Active` with `Success` after exactly the least
time, having sent exactly the four configuration frames in order. -/
def Obligations.BringUpReachesActive : Prop :=
  ∀ (s : State) (a0 a1 a2 a3 : Byte) (moves : List Move) (answers : List Answer),
    s.params.wf = true → s.env.rstN = true → s.env.hostEnded = false → s.stat.busy = false →
    (cfgDeadtime s.cfg0).toNat ≤ s.params.dtMaxNs → s.env.pinmapOk = true →
    s.env.moves = bringUpMoves s.params s.cfg0 ++ moves →
    s.env.answers = ⟨.success, a0⟩ :: ⟨.success, a1⟩ :: ⟨.success, a2⟩ :: ⟨.success, a3⟩ :: answers →
    ∃ t, runSteps (bringUpMoves s.params s.cfg0).length s = some t ∧
      t.stat.state = .active ∧ t.stat.busy = false ∧ t.result = .success ∧ t.stat.cfgStep = 3#2 ∧
      t.stat.prevReq = .s0 ∧ t.stat.snapValid = 0b0001#4 ∧ t.stat.retries = 0#4 ∧
      t.status = { s.status with r0 := a3 } ∧
      t.lastXfer = { tx := calByte s.cfg0, rx := a3, res := .success, valid := true } ∧
      t.lines = { rstAsserted := false, en1 := true, en2 := true, csSel := false, ls := false, hs := false } ∧
      t.env.now = s.env.now + bringUpTime s.params s.cfg0 ∧
      t.env.moves = moves ∧ t.env.answers = answers ∧
      ∃ more, t.trace = s.trace ++ more ∧
        frameEvents (more.map Prod.snd) =
          ((cfgFrames s.params s.cfg0).zip [a0, a1, a2, a3]).map fun e => Event.frame e.1 .success e.2
end

