-- ==== Sys2Proof/Laws/State.lean ====
section
/-! SUPPORT. What each named update does to each field of State, so that no proof unfolds a record update. -/

namespace Sys2Proof.Machine

/-! ### record -/

@[simp] theorem record_stat (e : Event) (s : State) : (record e s).stat = s.stat := rfl
@[simp] theorem record_result (e : Event) (s : State) : (record e s).result = s.result := rfl
@[simp] theorem record_cfg0 (e : Event) (s : State) : (record e s).cfg0 = s.cfg0 := rfl
@[simp] theorem record_cfg1 (e : Event) (s : State) : (record e s).cfg1 = s.cfg1 := rfl
@[simp] theorem record_status (e : Event) (s : State) : (record e s).status = s.status := rfl
@[simp] theorem record_lastXfer (e : Event) (s : State) : (record e s).lastXfer = s.lastXfer := rfl
@[simp] theorem record_lines (e : Event) (s : State) : (record e s).lines = s.lines := rfl
@[simp] theorem record_seq (e : Event) (s : State) : (record e s).seq = s.seq := rfl
@[simp] theorem record_trace (e : Event) (s : State) : (record e s).trace = s.trace ++ [(s.env.now, e)] := rfl
@[simp] theorem record_bus (e : Event) (s : State) : (record e s).bus = s.bus := rfl
@[simp] theorem record_env (e : Event) (s : State) : (record e s).env = s.env := rfl
@[simp] theorem record_params (e : Event) (s : State) : (record e s).params = s.params := rfl

/-! ### line -/

@[simp] theorem line_stat (l : Line) (v : Bool) (s : State) : (line l v s).stat = s.stat := rfl
@[simp] theorem line_result (l : Line) (v : Bool) (s : State) : (line l v s).result = s.result := rfl
@[simp] theorem line_cfg0 (l : Line) (v : Bool) (s : State) : (line l v s).cfg0 = s.cfg0 := rfl
@[simp] theorem line_cfg1 (l : Line) (v : Bool) (s : State) : (line l v s).cfg1 = s.cfg1 := rfl
@[simp] theorem line_status (l : Line) (v : Bool) (s : State) : (line l v s).status = s.status := rfl
@[simp] theorem line_lastXfer (l : Line) (v : Bool) (s : State) : (line l v s).lastXfer = s.lastXfer := rfl
@[simp] theorem line_lines (l : Line) (v : Bool) (s : State) : (line l v s).lines = setLine l v s.lines := rfl
@[simp] theorem line_seq (l : Line) (v : Bool) (s : State) : (line l v s).seq = s.seq := rfl
@[simp] theorem line_trace (l : Line) (v : Bool) (s : State) : (line l v s).trace = s.trace ++ [(s.env.now, .line l v)] := rfl
@[simp] theorem line_bus (l : Line) (v : Bool) (s : State) : (line l v s).bus = s.bus := rfl
@[simp] theorem line_env (l : Line) (v : Bool) (s : State) : (line l v s).env = s.env := rfl
@[simp] theorem line_params (l : Line) (v : Bool) (s : State) : (line l v s).params = s.params := rfl

/-! ### setState -/

@[simp] theorem setState_stat (st : PdcState) (s : State) : (setState st s).stat = { s.stat with state := st } := rfl
@[simp] theorem setState_result (st : PdcState) (s : State) : (setState st s).result = s.result := rfl
@[simp] theorem setState_cfg0 (st : PdcState) (s : State) : (setState st s).cfg0 = s.cfg0 := rfl
@[simp] theorem setState_cfg1 (st : PdcState) (s : State) : (setState st s).cfg1 = s.cfg1 := rfl
@[simp] theorem setState_status (st : PdcState) (s : State) : (setState st s).status = s.status := rfl
@[simp] theorem setState_lastXfer (st : PdcState) (s : State) : (setState st s).lastXfer = s.lastXfer := rfl
@[simp] theorem setState_lines (st : PdcState) (s : State) : (setState st s).lines = s.lines := rfl
@[simp] theorem setState_seq (st : PdcState) (s : State) : (setState st s).seq = s.seq := rfl
@[simp] theorem setState_trace (st : PdcState) (s : State) : (setState st s).trace = s.trace ++ [(s.env.now, .state st)] := rfl
@[simp] theorem setState_bus (st : PdcState) (s : State) : (setState st s).bus = s.bus := rfl
@[simp] theorem setState_env (st : PdcState) (s : State) : (setState st s).env = s.env := rfl
@[simp] theorem setState_params (st : PdcState) (s : State) : (setState st s).params = s.params := rfl

/-! ### finish -/

@[simp] theorem finish_stat (c : StatusCode) (s : State) : (finish c s).stat = { s.stat with busy := false } := rfl
@[simp] theorem finish_result (c : StatusCode) (s : State) : (finish c s).result = c := rfl
@[simp] theorem finish_cfg0 (c : StatusCode) (s : State) : (finish c s).cfg0 = s.cfg0 := rfl
@[simp] theorem finish_cfg1 (c : StatusCode) (s : State) : (finish c s).cfg1 = s.cfg1 := rfl
@[simp] theorem finish_status (c : StatusCode) (s : State) : (finish c s).status = s.status := rfl
@[simp] theorem finish_lastXfer (c : StatusCode) (s : State) : (finish c s).lastXfer = s.lastXfer := rfl
@[simp] theorem finish_lines (c : StatusCode) (s : State) : (finish c s).lines = s.lines := rfl
@[simp] theorem finish_seq (c : StatusCode) (s : State) : (finish c s).seq = { s.seq with spc := .idle } := rfl
@[simp] theorem finish_trace (c : StatusCode) (s : State) : (finish c s).trace = s.trace ++ [(s.env.now, .done c)] := rfl
@[simp] theorem finish_bus (c : StatusCode) (s : State) : (finish c s).bus = s.bus := rfl
@[simp] theorem finish_env (c : StatusCode) (s : State) : (finish c s).env = s.env := rfl
@[simp] theorem finish_params (c : StatusCode) (s : State) : (finish c s).params = s.params := rfl

/-! ### forgetDevice -/

@[simp] theorem forgetDevice_stat (s : State) : (forgetDevice s).stat = { s.stat with prevReq := .noReq, snapValid := 0#4 } := rfl
@[simp] theorem forgetDevice_result (s : State) : (forgetDevice s).result = s.result := rfl
@[simp] theorem forgetDevice_cfg0 (s : State) : (forgetDevice s).cfg0 = s.cfg0 := rfl
@[simp] theorem forgetDevice_cfg1 (s : State) : (forgetDevice s).cfg1 = s.cfg1 := rfl
@[simp] theorem forgetDevice_status (s : State) : (forgetDevice s).status = s.status := rfl
@[simp] theorem forgetDevice_lastXfer (s : State) : (forgetDevice s).lastXfer = s.lastXfer := rfl
@[simp] theorem forgetDevice_lines (s : State) : (forgetDevice s).lines = s.lines := rfl
@[simp] theorem forgetDevice_seq (s : State) : (forgetDevice s).seq = s.seq := rfl
@[simp] theorem forgetDevice_trace (s : State) : (forgetDevice s).trace = s.trace := rfl
@[simp] theorem forgetDevice_bus (s : State) : (forgetDevice s).bus = s.bus := rfl
@[simp] theorem forgetDevice_env (s : State) : (forgetDevice s).env = s.env := rfl
@[simp] theorem forgetDevice_params (s : State) : (forgetDevice s).params = s.params := rfl

/-! ### loseCommand -/

@[simp] theorem loseCommand_stat (s : State) : (loseCommand s).stat = { s.stat with cmdLost := true } := rfl
@[simp] theorem loseCommand_result (s : State) : (loseCommand s).result = s.result := rfl
@[simp] theorem loseCommand_cfg0 (s : State) : (loseCommand s).cfg0 = s.cfg0 := rfl
@[simp] theorem loseCommand_cfg1 (s : State) : (loseCommand s).cfg1 = s.cfg1 := rfl
@[simp] theorem loseCommand_status (s : State) : (loseCommand s).status = s.status := rfl
@[simp] theorem loseCommand_lastXfer (s : State) : (loseCommand s).lastXfer = s.lastXfer := rfl
@[simp] theorem loseCommand_lines (s : State) : (loseCommand s).lines = s.lines := rfl
@[simp] theorem loseCommand_seq (s : State) : (loseCommand s).seq = s.seq := rfl
@[simp] theorem loseCommand_trace (s : State) : (loseCommand s).trace = s.trace := rfl
@[simp] theorem loseCommand_bus (s : State) : (loseCommand s).bus = s.bus := rfl
@[simp] theorem loseCommand_env (s : State) : (loseCommand s).env = s.env := rfl
@[simp] theorem loseCommand_params (s : State) : (loseCommand s).params = s.params := rfl

/-! ### beginWait -/

@[simp] theorem beginWait_stat (d : Nat) (s : State) : (beginWait d s).stat = s.stat := rfl
@[simp] theorem beginWait_result (d : Nat) (s : State) : (beginWait d s).result = s.result := rfl
@[simp] theorem beginWait_cfg0 (d : Nat) (s : State) : (beginWait d s).cfg0 = s.cfg0 := rfl
@[simp] theorem beginWait_cfg1 (d : Nat) (s : State) : (beginWait d s).cfg1 = s.cfg1 := rfl
@[simp] theorem beginWait_status (d : Nat) (s : State) : (beginWait d s).status = s.status := rfl
@[simp] theorem beginWait_lastXfer (d : Nat) (s : State) : (beginWait d s).lastXfer = s.lastXfer := rfl
@[simp] theorem beginWait_lines (d : Nat) (s : State) : (beginWait d s).lines = s.lines := rfl
@[simp] theorem beginWait_seq (d : Nat) (s : State) : (beginWait d s).seq = { s.seq with
      waitStart := s.env.now
      waitD := d
      waitCount := counterLoad s.params.waitStepCycles s.env.sysclkHz.toNat d
      waitPhase := 0 } := rfl
@[simp] theorem beginWait_trace (d : Nat) (s : State) : (beginWait d s).trace = s.trace := rfl
@[simp] theorem beginWait_bus (d : Nat) (s : State) : (beginWait d s).bus = s.bus := rfl
@[simp] theorem beginWait_env (d : Nat) (s : State) : (beginWait d s).env = s.env := rfl
@[simp] theorem beginWait_params (d : Nat) (s : State) : (beginWait d s).params = s.params := rfl

/-! ### goto -/

@[simp] theorem goto_stat (l : Label) (s : State) : (goto l s).stat = s.stat := by unfold goto; split <;> rfl
@[simp] theorem goto_result (l : Label) (s : State) : (goto l s).result = s.result := by unfold goto; split <;> rfl
@[simp] theorem goto_cfg0 (l : Label) (s : State) : (goto l s).cfg0 = s.cfg0 := by unfold goto; split <;> rfl
@[simp] theorem goto_cfg1 (l : Label) (s : State) : (goto l s).cfg1 = s.cfg1 := by unfold goto; split <;> rfl
@[simp] theorem goto_status (l : Label) (s : State) : (goto l s).status = s.status := by unfold goto; split <;> rfl
@[simp] theorem goto_lastXfer (l : Label) (s : State) : (goto l s).lastXfer = s.lastXfer := by unfold goto; split <;> rfl
@[simp] theorem goto_lines (l : Label) (s : State) : (goto l s).lines = s.lines := by unfold goto; split <;> rfl
@[simp] theorem goto_trace (l : Label) (s : State) : (goto l s).trace = s.trace := by unfold goto; split <;> rfl
@[simp] theorem goto_bus (l : Label) (s : State) : (goto l s).bus = s.bus := by unfold goto; split <;> rfl
@[simp] theorem goto_env (l : Label) (s : State) : (goto l s).env = s.env := by unfold goto; split <;> rfl
@[simp] theorem goto_params (l : Label) (s : State) : (goto l s).params = s.params := by unfold goto; split <;> rfl

/-! ### takeAnswer -/

@[simp] theorem takeAnswer_stat (s : State) : (takeAnswer s).stat = s.stat := by unfold takeAnswer; split <;> rfl
@[simp] theorem takeAnswer_result (s : State) : (takeAnswer s).result = s.result := by unfold takeAnswer; split <;> rfl
@[simp] theorem takeAnswer_cfg0 (s : State) : (takeAnswer s).cfg0 = s.cfg0 := by unfold takeAnswer; split <;> rfl
@[simp] theorem takeAnswer_cfg1 (s : State) : (takeAnswer s).cfg1 = s.cfg1 := by unfold takeAnswer; split <;> rfl
@[simp] theorem takeAnswer_status (s : State) : (takeAnswer s).status = s.status := by unfold takeAnswer; split <;> rfl
@[simp] theorem takeAnswer_lastXfer (s : State) : (takeAnswer s).lastXfer = s.lastXfer := by unfold takeAnswer; split <;> rfl
@[simp] theorem takeAnswer_lines (s : State) : (takeAnswer s).lines = s.lines := by unfold takeAnswer; split <;> rfl
@[simp] theorem takeAnswer_seq (s : State) : (takeAnswer s).seq = s.seq := by unfold takeAnswer; split <;> rfl
@[simp] theorem takeAnswer_trace (s : State) : (takeAnswer s).trace = s.trace := by unfold takeAnswer; split <;> rfl
@[simp] theorem takeAnswer_bus (s : State) : (takeAnswer s).bus = s.bus := by unfold takeAnswer; split <;> rfl
@[simp] theorem takeAnswer_params (s : State) : (takeAnswer s).params = s.params := by unfold takeAnswer; split <;> rfl

/-! ### takeMove -/

@[simp] theorem takeMove_stat (s : State) : (takeMove s).stat = s.stat := by unfold takeMove; split <;> rfl
@[simp] theorem takeMove_result (s : State) : (takeMove s).result = s.result := by unfold takeMove; split <;> rfl
@[simp] theorem takeMove_cfg0 (s : State) : (takeMove s).cfg0 = s.cfg0 := by unfold takeMove; split <;> rfl
@[simp] theorem takeMove_cfg1 (s : State) : (takeMove s).cfg1 = s.cfg1 := by unfold takeMove; split <;> rfl
@[simp] theorem takeMove_status (s : State) : (takeMove s).status = s.status := by unfold takeMove; split <;> rfl
@[simp] theorem takeMove_lastXfer (s : State) : (takeMove s).lastXfer = s.lastXfer := by unfold takeMove; split <;> rfl
@[simp] theorem takeMove_lines (s : State) : (takeMove s).lines = s.lines := by unfold takeMove; split <;> rfl
@[simp] theorem takeMove_seq (s : State) : (takeMove s).seq = s.seq := by unfold takeMove; split <;> rfl
@[simp] theorem takeMove_trace (s : State) : (takeMove s).trace = s.trace := by unfold takeMove; split <;> rfl
@[simp] theorem takeMove_bus (s : State) : (takeMove s).bus = s.bus := by unfold takeMove; split <;> rfl
@[simp] theorem takeMove_params (s : State) : (takeMove s).params = s.params := by unfold takeMove; split <;> rfl

@[simp] theorem goto_seq_opList (l : Label) (s : State) : (goto l s).seq.opList = s.seq.opList := by
  unfold goto; split <;> rfl
@[simp] theorem goto_seq_opIdx (l : Label) (s : State) : (goto l s).seq.opIdx = s.seq.opIdx := by
  unfold goto; split <;> rfl
@[simp] theorem goto_seq_attempt (l : Label) (s : State) : (goto l s).seq.attempt = s.seq.attempt := by
  unfold goto; split <;> rfl
@[simp] theorem goto_seq_opKind (l : Label) (s : State) : (goto l s).seq.opKind = s.seq.opKind := by
  unfold goto; split <;> rfl
@[simp] theorem goto_seq_lastRes (l : Label) (s : State) : (goto l s).seq.lastRes = s.seq.lastRes := by
  unfold goto; split <;> rfl
@[simp] theorem goto_seq_spc (l : Label) (s : State) : (goto l s).seq.spc = l := by unfold goto; split <;> rfl
@[simp] theorem takeAnswer_env_now (s : State) : (takeAnswer s).env.now = s.env.now := by unfold takeAnswer; split <;> rfl
@[simp] theorem takeAnswer_env_sysclkHz (s : State) : (takeAnswer s).env.sysclkHz = s.env.sysclkHz := by unfold takeAnswer; split <;> rfl
@[simp] theorem takeAnswer_env_pinmapOk (s : State) : (takeAnswer s).env.pinmapOk = s.env.pinmapOk := by unfold takeAnswer; split <;> rfl
@[simp] theorem takeAnswer_env_rstN (s : State) : (takeAnswer s).env.rstN = s.env.rstN := by unfold takeAnswer; split <;> rfl
@[simp] theorem takeMove_env_now (s : State) : (takeMove s).env.now = s.env.now := by unfold takeMove; split <;> rfl
@[simp] theorem takeMove_env_sysclkHz (s : State) : (takeMove s).env.sysclkHz = s.env.sysclkHz := by unfold takeMove; split <;> rfl
@[simp] theorem takeMove_env_pinmapOk (s : State) : (takeMove s).env.pinmapOk = s.env.pinmapOk := by unfold takeMove; split <;> rfl
@[simp] theorem takeMove_env_rstN (s : State) : (takeMove s).env.rstN = s.env.rstN := by unfold takeMove; split <;> rfl
@[simp] theorem takeAnswer_env_hostEnded (s : State) : (takeAnswer s).env.hostEnded = s.env.hostEnded := by
  unfold takeAnswer; split <;> rfl
@[simp] theorem takeMove_env_hostEnded (s : State) : (takeMove s).env.hostEnded = s.env.hostEnded := by
  unfold takeMove; split <;> rfl
@[simp] theorem takeAnswer_env_moves (s : State) : (takeAnswer s).env.moves = s.env.moves := by unfold takeAnswer; split <;> rfl
@[simp] theorem takeMove_env_answers (s : State) : (takeMove s).env.answers = s.env.answers := by unfold takeMove; split <;> rfl

end Sys2Proof.Machine
end

