-- ==== Sys2Proof/Laws/Ops.lean ====
section
/-! SUPPORT. What the shared operations do, once each: the label change, the fault entry, the safe lines, the
transfer, the host operations' dispatch and block reset. -/

namespace Sys2Proof.Machine

/-- A label without a wait only changes SPC. -/
theorem goto_of_no_wait {l : Label} {s : State} (h : waitOf s.params s.cfg0 l = none) :
    goto l s = { s with seq.spc := l } := by
  simp [goto, h]

/-- A label with a wait starts it. -/
theorem goto_of_wait {l : Label} {s : State} {d : Nat} (h : waitOf s.params s.cfg0 l = some d) :
    goto l s = beginWait d { s with seq.spc := l } := by
  simp [goto, h]

/-- After `goto` to a wait label, WAIT_D is the wait and WAIT_START is now (43_bringup_fsm R250). -/
theorem goto_wait {l : Label} {s : State} {d : Nat} (h : waitOf s.params s.cfg0 l = some d) :
    (goto l s).seq.waitD = d ∧ (goto l s).seq.waitStart = s.env.now := by
  rw [goto_of_wait h]; exact ⟨rfl, rfl⟩

/-- `raise Fault(code)` with CS deselected already records no line event (60_exceptions R343). -/
theorem raiseFault_of_deselected {code : StatusCode} {s : State} (h : s.lines.csSel = false) :
    raiseFault code s =
      { s with
        stat.faultAt := s.stat.state
        stat.state := .faulted
        stat.busy := false
        result := code
        seq.spc := .idle
        trace := s.trace ++ [(s.env.now, .state .faulted)] ++ [(s.env.now, .done code)] } := by
  simp [raiseFault, deselectIfSelected, h, setState, finish, record]

/-- `raise Fault(code)` with CS selected deselects it first (60_exceptions R343). -/
theorem raiseFault_of_selected {code : StatusCode} {s : State} (h : s.lines.csSel = true) :
    raiseFault code s =
      { s with
        stat.faultAt := s.stat.state
        stat.state := .faulted
        stat.busy := false
        result := code
        seq.spc := .idle
        lines.csSel := false
        trace := s.trace ++ [(s.env.now, .line .cs false)] ++ [(s.env.now, .state .faulted)] ++ [(s.env.now, .done code)] } := by
  simp [raiseFault, deselectIfSelected, h, setState, finish, record, unselectDevice, line, setLine]

/-- The lines end inactive, with one event each, and nothing else changes. -/
theorem driveInactive_eq (s : State) :
    driveInactive s =
      { s with
        lines := Lines.reset
        trace := s.trace ++ [(s.env.now, .line .rst true), (s.env.now, .line .en1 false), (s.env.now, .line .en2 false),
          (s.env.now, .line .cs false), (s.env.now, .line .ls false), (s.env.now, .line .hs false)] } := by
  simp [driveInactive, line, record, setLine, Lines.reset]

/-- A transfer changes LASTXFER, the trace, STATUS and STAT, and nothing else (41_transport_and_lines R174). -/
theorem transferWith_eq (tx : Byte) (a : Answer) (s : State) :
    transferWith tx a s = { s with
      stat := (transferWith tx a s).stat
      status := (transferWith tx a s).status
      lastXfer := lastXferOf tx a
      trace := s.trace ++ [(s.env.now, .frame tx a.res a.rx)] } := by
  rcases a with ⟨res, rx⟩
  cases hq : reqIndex s.stat.prevReq <;> cases res <;>
    simp [transferWith, countBusy, pipelineAfter, codecLatch, latchStatus, record, hq]

/-- Of STAT a transfer changes only PREV_REQ, SNAPVALID and RETRIES, the last by a `Busy` answer (R174). -/
theorem transferWith_stat (tx : Byte) (a : Answer) (s : State) :
    (transferWith tx a s).stat = { s.stat with
      prevReq := (transferWith tx a s).stat.prevReq
      snapValid := (transferWith tx a s).stat.snapValid
      retries := if a.res = .busy then retriesNext s.stat.retries else s.stat.retries } := by
  rcases a with ⟨res, rx⟩
  cases hq : reqIndex s.stat.prevReq <;> cases res <;>
    simp [transferWith, countBusy, pipelineAfter, codecLatch, latchStatus, record, hq]

/-- On `Success` the byte goes to the register the previous frame requested (42_command_codec R214). -/
theorem transferWith_success {tx rx : Byte} {s : State} {k : Fin 4} (h : reqIndex s.stat.prevReq = some k) :
    (transferWith tx ⟨.success, rx⟩ s).status = statusSet k rx s.status ∧
    (transferWith tx ⟨.success, rx⟩ s).stat.snapValid = snapValidSet k s.stat.snapValid ∧
    (transferWith tx ⟨.success, rx⟩ s).stat.prevReq = reqOf tx := by
  simp [transferWith, countBusy, pipelineAfter, codecLatch, latchStatus, h]

/-- With no register requested the byte is discarded (42_command_codec R214, R221). -/
theorem transferWith_discard {tx rx : Byte} {s : State} (h : reqIndex s.stat.prevReq = none) :
    (transferWith tx ⟨.success, rx⟩ s).status = s.status ∧
    (transferWith tx ⟨.success, rx⟩ s).stat.snapValid = s.stat.snapValid ∧
    (transferWith tx ⟨.success, rx⟩ s).stat.prevReq = reqOf tx := by
  simp [transferWith, countBusy, pipelineAfter, codecLatch, latchStatus, h]

/-- Any other result latches nothing and makes the pipeline `Unknown` (42_command_codec R215). -/
theorem transferWith_failure {tx : Byte} {a : Answer} {s : State} (h : a.res ≠ .success) :
    (transferWith tx a s).status = s.status ∧
    (transferWith tx a s).stat.snapValid = s.stat.snapValid ∧
    (transferWith tx a s).stat.prevReq = .unknown := by
  rcases a with ⟨res, rx⟩
  cases res <;> simp_all [transferWith, countBusy, pipelineAfter]

/-- X_XFER is the transfer with the transport's next answer, then X_UNSEL (43_bringup_fsm R253). -/
theorem sendFrame_eq (tx : Byte) (s : State) :
    sendFrame tx s =
      { transferWith tx (nextAnswer tx s) (takeAnswer s) with
        seq.lastRes := (nextAnswer tx s).res
        seq.spc := .xUnsel } := by
  unfold sendFrame
  rw [goto_of_no_wait rfl]

/-- A CTRL write while BUSY = 1 is dropped (44_host_operations R301). -/
theorem acceptCtrl_busy {op : BitVec 3} {arg : Byte} {body : State → State} {s : State} (h : s.stat.busy = true) :
    acceptCtrl op arg body s = loseCommand s := by
  simp [acceptCtrl, h]

/-- A CTRL write while BUSY = 0 records its event and runs (44_host_operations R300). -/
theorem acceptCtrl_idle {op : BitVec 3} {arg : Byte} {body : State → State} {s : State} (h : s.stat.busy = false) :
    acceptCtrl op arg body s = body (record (.host op arg) s) := by
  simp [acceptCtrl, h]

/-- An active-state operation in `Active`. -/
theorem onlyActive_active {body : State → State} {s : State} (h : s.stat.state = .active) :
    onlyActive body s = body s := by
  simp [onlyActive, h]

/-- An active-state operation elsewhere. -/
theorem onlyActive_other {body : State → State} {s : State} (h : s.stat.state ≠ .active) :
    onlyActive body s = finish .fail s := by
  simp [onlyActive, h]

/-- The frames of a host operation are started with BUSY = 1. -/
theorem startHostFrames_eq (frames : List Byte) (s : State) :
    startHostFrames frames s =
      { s with
        stat.busy := true
        seq.opList := frames
        seq.opIdx := 0
        seq.attempt := 0
        seq.opKind := .hostop
        seq.spc := .xSel } := by
  unfold startHostFrames startFrames
  rw [goto_of_no_wait rfl]

end Sys2Proof.Machine
end

