-- ==== Sys2Proof/Laws/Exec.lean ====
section
/-! SUPPORT. Every instruction answers a next state: a frame's is the transfer step with its byte, a host
operation's is its CTRL write. -/

namespace Sys2Proof.Machine

/-- A frame instruction is the transfer step with the frame it encodes to (42_command_codec R203 to R212). -/
theorem exec_frame {i : Instr} {b : Byte} (h : encode i = .frame b) (s : State) : exec i s = .next (sendFrame b s) := by
  cases i <;> cases h <;> rfl

/-- A host operation while BUSY = 1 (44_host_operations R301). -/
theorem exec_ctrl_busy {i : Instr} {w : Word} (h : encode i = .ctrl w) {s : State} (hb : s.stat.busy = true) :
    exec i s = .next (loseCommand s) := by
  cases i <;> cases h <;> exact congrArg Host.Outcome.next (acceptCtrl_busy hb)

/-- Every instruction is a frame or a host operation. -/
theorem encode_cases (i : Instr) : (∃ b, encode i = .frame b) ∨ (∃ w, encode i = .ctrl w) := by
  cases i <;> first | exact .inl ⟨_, rfl⟩ | exact .inr ⟨_, rfl⟩

end Sys2Proof.Machine
end

