-- ==== Sys2Proof/Laws/PerInstr.lean ====
section
/-! SUPPORT. Per-instruction facts about the syntax: every instruction's encoding matches its row of
spec/opcode_table.json. -/

namespace Sys2Proof.Laws.TableRow

/-- A well-formed instruction's encoded bits, under its row's mask, are the row's match value
(30_encoding R112, R113, R116). -/
def Statement (i : Instr) : Prop := i.wf = true → (encode i).toNat &&& i.rowMask = i.rowMatch

theorem null0 : Statement .null0 := fun _ => by decide
theorem null1 : Statement .null1 := fun _ => by decide
theorem null2 : Statement .null2 := fun _ => by decide
theorem null3 : Statement .null3 := fun _ => by decide
theorem mask0 (p : Nibble) : Statement (.mask0 p) := fun _ => by revert p; decide
theorem mask1 (p : Nibble) : Statement (.mask1 p) := fun _ => by revert p; decide
theorem mode (p : Nibble) : Statement (.mode p) := by unfold Statement; revert p; decide
theorem clint0 (p : Nibble) : Statement (.clint0 p) := fun _ => by revert p; decide
theorem clint1 (p : Nibble) : Statement (.clint1 p) := fun _ => by revert p; decide
theorem deadtime (p : Nibble) : Statement (.deadtime p) := by unfold Statement; revert p; decide

/-- The low three bits of a CTRL word are its OP (30_encoding R116). -/
theorem ctrl_low (op : BitVec 3) (arg : Byte) : (ctrlOf op arg).toNat &&& 7 = op.toNat := by
  have h : (ctrlOf op arg).setWidth 3 = op := by
    ext k hk
    rw [BitVec.getElem_setWidth]
    exact (BitVec.getLsbD_append (x := 0#16 ++ arg ++ 0#5) (y := op)).trans (by simp [hk])
  have h2 := congrArg BitVec.toNat h
  rw [BitVec.toNat_setWidth] at h2
  rw [show (7 : Nat) = 2 ^ 3 - 1 from rfl, Nat.and_two_pow_sub_one_eq_mod, h2]

theorem nop (arg : Byte) : Statement (.nop arg) := fun _ => ctrl_low _ _
theorem init (arg : Byte) : Statement (.init arg) := fun _ => ctrl_low _ _
theorem shutdown (arg : Byte) : Statement (.shutdown arg) := fun _ => ctrl_low _ _
theorem send (b : Byte) : Statement (.send b) := fun _ => ctrl_low _ _
theorem readStatus (n : BitVec 2) (hi : BitVec 6) : Statement (.readStatus n hi) := fun _ => ctrl_low _ _
theorem clearFaults (c0 c1 : Nibble) : Statement (.clearFaults c0 c1) := fun _ => ctrl_low _ _

end Sys2Proof.Laws.TableRow
end

