-- ==== Sys2Proof/Laws/Safety.lean ====
section
/-! SUPPORT. The reset values and the end of a run, field by field. -/

namespace Sys2Proof.Safety

open Sys2Proof.Machine

/-- The reset values, one equation per register (10_state R44). -/
theorem atResetValues_iff (s : State) :
    AtResetValues s ↔
      s.stat = Stat.reset ∧ s.result = .success ∧ s.cfg0 = s.params.dtResetNs ++ 0#16 ∧
      s.cfg1 = s.params.spiBaudResetHz ∧ s.status = StatusFile.reset ∧ s.lastXfer = LastXfer.reset ∧
      s.lines = Lines.reset ∧ s.seq.spc = .idle ∧ s.seq.opList = [] ∧ s.seq.opIdx = 0 ∧ s.seq.attempt = 0 ∧
      s.seq.opKind = .hostop ∧ s.seq.lastRes = .success := by
  rcases s with ⟨st, re, c0, c1, sf, lx, li, ⟨spc, ws, wd, wc, wp, ol, oi, at', ok, lr⟩, tr, bu, en, pa⟩
  simp [AtResetValues, State.atReset, Seq.reset]

/-- Block reset gives every register its reset value. -/
theorem atReset_atResetValues (trace : List (Nat × Event)) (bus : BusResp) (env : Env) (params : Params) :
    AtResetValues (State.atReset trace bus env params) := rfl

/-- What a run shows depends on neither time, the inputs, the delay unit, nor the bus. -/
theorem observe_congr {s t : State} (hs : t.stat = s.stat) (hr : t.result = s.result) (h0 : t.cfg0 = s.cfg0)
    (h1 : t.cfg1 = s.cfg1) (hf : t.status = s.status) (hx : t.lastXfer = s.lastXfer) (hl : t.lines = s.lines)
    (ht : t.trace = s.trace) (hp : t.params = s.params) : observe t = observe s := by
  simp [observe, registerOffsets, readReg, dtcodeWord, offCtrl, offStat, offResult, offCfg0, offCfg1, offSnap,
    offDtcode, offLastXfer, hs, hr, h0, h1, hf, hx, hl, ht, hp]

end Sys2Proof.Safety
end

