-- ==== Sys2Proof/Laws/Step.lean ====
section
/-! SUPPORT. What one step can do, said once: one case per move. -/

namespace Sys2Proof.Machine

/-- A planned move is the next one. -/
theorem nextMove_of_cons {s : State} {m : Move} {rest : List Move} (h : s.env.moves = m :: rest) : nextMove s = m := by
  simp [nextMove, h]

/-- Taking a planned move only shortens the plan. -/
theorem takeMove_of_cons {s : State} {m : Move} {rest : List Move} (h : s.env.moves = m :: rest) :
    takeMove s = { s with env.moves := rest } := by
  simp [takeMove, h]

/-- A step is the next move, run after it is taken. -/
theorem step_of_move {s : State} {m : Move} (h : nextMove s = m) : step s = runMove m (takeMove s) := by
  rw [step, h]

/-- The host's access while it still makes any. -/
theorem hostTurn_open {s : State} (a : HostAccess) (h : s.env.hostEnded = false) : hostTurn a s = hostMove a s := by
  simp [hostTurn, h]

/-- The host's move changes nothing once its last access is behind it (70_reset_and_hazards R397, log 29). -/
theorem hostTurn_ended {s : State} (a : HostAccess) (h : s.env.hostEnded = true) : hostTurn a s = .next s := by
  simp [hostTurn, h]

/-- The sequencer's move without an enabled step changes nothing (43_bringup_fsm R250). -/
theorem seqMove_disabled {s : State} (h : seqEnabled s = false) : seqMove s = .next s := by
  simp [seqMove, h]

/-- The sequencer's move at a label other than X_XFER. -/
theorem seqMove_label {s : State} (h : seqEnabled s = true) (hl : s.seq.spc ≠ .xXfer) :
    seqMove s = .next (labelStep s) := by
  unfold seqMove
  rw [if_pos h]
  split
  · contradiction
  · rfl

/-- The sequencer's move at X_XFER runs the frame it decodes (43_bringup_fsm R253). -/
theorem seqMove_frame {s : State} {b : Byte} {i : Instr} (h : seqEnabled s = true) (hl : s.seq.spc = .xXfer)
    (hb : currentFrame s = some b) (hd : decodeFrame b = .ok i) : seqMove s = exec i s := by
  simp [seqMove, h, hl, xferStep, hb, decodeFrameBytes, hd]

/-- What a sequencer move that answers a next state did. -/
theorem seqMove_cases {s t : State} (h : seqMove s = .next t) :
    (seqEnabled s = false ∧ t = s) ∨
    (seqEnabled s = true ∧ s.seq.spc ≠ .xXfer ∧ t = labelStep s) ∨
    (seqEnabled s = true ∧ s.seq.spc = .xXfer ∧
      ∃ b i, currentFrame s = some b ∧ decodeFrame b = .ok i ∧ exec i s = .next t) := by
  unfold seqMove at h
  split at h
  · rename_i he
    split at h
    · rename_i hl
      refine .inr (.inr ⟨he, hl, ?_⟩)
      unfold xferStep at h
      split at h
      · cases h
      · rename_i b hb
        simp only [decodeFrameBytes] at h
        cases hd : decodeFrame b with
        | ok i => rw [hd] at h; exact ⟨b, i, hb, hd, h⟩
        | error r => rw [hd] at h; cases h
    · rename_i hl
      cases h
      exact .inr (.inl ⟨he, hl, rfl⟩)
  · rename_i he
    cases h
    exact .inl ⟨by simpa using he, rfl⟩

/-- What a CTRL write that answers a next state did: it ran an instruction, or it had a reserved OP. -/
theorem ctrlWrite_cases {w : Word} {s t : State} (h : ctrlWrite w s = .next t) :
    (∃ i, decodeCtrl w = .ok i ∧ exec i s = .next t) ∨ (∃ r, decodeCtrl w = .error r ∧ t = reservedOp w s) := by
  unfold ctrlWrite at h
  cases hd : decodeCtrl w with
  | ok i => rw [hd] at h; exact .inl ⟨i, rfl, h⟩
  | error r => rw [hd] at h; cases h; exact .inr ⟨r, rfl, rfl⟩

end Sys2Proof.Machine
end

