-- ==== Sys2Proof/Tests/Slice0.lean ====
section
/-! SUPPORT. The model's own tests: expected values come from spec/95_test_vectors.md and from the examples of the rules;
and a witness for every statement of Certificates/Slice0/Obligations.lean that has hypotheses. -/

namespace Sys2Proof.Tests

open Sys2Proof Sys2Proof.Machine Sys2Proof.Safety Sys2Proof.Claims

/-! ### Helpers -/

/-- Whether an outcome is a next state with a property. -/
def after (o : Host.Outcome State Fault Refusal) (p : State → Bool) : Bool :=
  match o with
  | .next t => p t
  | .fault _ => false
  | .refused _ => false

/-- The word a read of STAT would return. -/
def stat (s : State) : Word := readReg 0x04 s

/-- Idle in `Active` after scenario 1 (95_test_vectors P1): STAT = 0x00113006, SNAP = 0x00000010. -/
def active : State :=
  { State.reset with
    stat.state := .active
    stat.cfgStep := 3#2
    stat.prevReq := .s0
    stat.snapValid := 1#4
    cfg0 := 0x01F403FF#32
    status.r0 := 0x10#8
    lastXfer := ⟨0x81#8, 0x10#8, .success, true⟩
    lines := { rstAsserted := false, en1 := true, en2 := true, csSel := false, ls := false, hs := false }
    seq := { Seq.reset with opKind := .bringup, opList := cfgFrames Params.default 0x01F403FF#32, opIdx := 4, waitD := 8000 }
    env.now := 2526000 }

/-- At X_XFER of a host operation with one frame, the transport answering `a`. -/
def sending (b : Byte) (prev : Req) (a : Answer) : State :=
  { active with
    stat.busy := true
    stat.prevReq := prev
    lines.csSel := true
    seq := { active.seq with spc := .xXfer, opList := [b], opIdx := 0, attempt := 1, opKind := .hostop }
    env.moves := [.seq]
    env.answers := [a] }

/-- Busy at a label, the sequencer moving next. -/
def atLabel (l : Label) (k : OpKind) (st : PdcState) (b : Lines) : State :=
  { active with stat.busy := true, stat.state := st, lines := b, seq := { active.seq with spc := l, opKind := k }, env.moves := [.seq] }

/-- The lines while the device is enabled and nothing pulses. -/
def enabled : Lines := { rstAsserted := false, en1 := true, en2 := true, csSel := false, ls := false, hs := false }

/-- A state whose next move is a host write, and one whose next move is a host read. -/
def writing (s : State) (off : Nat) (w : Word) : State := { s with env.moves := [.host (.write off 4 w)] }
def reading (s : State) (off : Nat) : State := { s with env.moves := [.host (.read off 4)] }

/-! ### The encodings, word by word (30_encoding R110 to R117) -/

theorem test_ill_formed_mode_refused :
    Instr.wf (.mode 0x4#4) = false ∧ Instr.wf (.mode 0xF#4) = false ∧ Instr.wf (.mode 0xB#4) = true := by decide
theorem test_ill_formed_deadtime_refused :
    Instr.wf (.deadtime 0x2#4) = false ∧ Instr.wf (.deadtime 0x8#4) = false ∧ Instr.wf (.deadtime 0x1#4) = true := by decide

theorem test_decode_null :
    decodeFrame 0b00000000#8 = .ok .null0 ∧ decodeFrame 0b00000001#8 = .ok .null1 ∧
    decodeFrame 0b00000010#8 = .ok .null2 ∧ decodeFrame 0b00000011#8 = .ok .null3 ∧
    decodeFrame 0b00000100#8 = .error (.reservedNull 0x04#8) := by decide
theorem test_decode_mask :
    decodeFrame 0b00101000#8 = .ok (.mask0 0b1000#4) ∧ decodeFrame 0b00110001#8 = .ok (.mask1 0b0001#4) := by decide
theorem test_decode_mode :
    decodeFrame 0b01001011#8 = .ok (.mode 0b1011#4) ∧ decodeFrame 0x44#8 = .error (.reservedMode 0x44#8) := by decide
theorem test_decode_clint :
    decodeFrame 0b01101111#8 = .ok (.clint0 0b1111#4) ∧ decodeFrame 0b01110100#8 = .ok (.clint1 0b0100#4) := by decide
theorem test_decode_deadtime :
    decodeFrame 0b10000000#8 = .ok (.deadtime 0#4) ∧ decodeFrame 0b10000001#8 = .ok (.deadtime 1#4) ∧
    decodeFrame 0x82#8 = .error (.reservedDeadtime 0x82#8) := by decide
theorem test_decode_reserved_class :
    decodeFrame 0x10#8 = .error (.reservedClass 0x10#8) ∧ decodeFrame 0x5A#8 = .error (.reservedClass 0x5A#8) ∧
    decodeFrame 0x90#8 = .error (.reservedClass 0x90#8) ∧ decodeFrame 0xFF#8 = .error (.reservedClass 0xFF#8) := by decide
/-- OP in [2:0], ARG in [15:8], all other bits set: they are ignored (R116). -/
theorem test_decode_ctrl :
    decodeCtrl 0b11111111111111110000000011111000#32 = .ok (.nop 0x00#8) ∧
    decodeCtrl 0b00000000000000001010101000000001#32 = .ok (.init 0xAA#8) ∧
    decodeCtrl 0b00000000000000000000000000000010#32 = .ok (.shutdown 0x00#8) ∧
    decodeCtrl 0b00000000000000000110000000000011#32 = .ok (.send 0x60#8) ∧
    decodeCtrl 0b00000000000000000000001100000100#32 = .ok (.readStatus 0b11#2 0#6) ∧
    decodeCtrl 0b00000000000000000000010000000100#32 = .ok (.readStatus 0b00#2 1#6) ∧
    decodeCtrl 0b00000000000000001111000000000101#32 = .ok (.clearFaults 0x0#4 0xF#4) ∧
    decodeCtrl 0b00000000000000000000000000000110#32 = .error (.reservedOp 6#3) ∧
    decodeCtrl 0b00000000000000000000000000000111#32 = .error (.reservedOp 7#3) := by decide
/-- The rows of spec/opcode_table.json through the host's own entry. -/
theorem test_table_words :
    decodeTableWord 8 0x03 = some .null3 ∧ decodeTableWord 8 0x20 = some (.mask0 0#4) ∧ decodeTableWord 8 0x40 = some (.mode 0#4) ∧
    decodeTableWord 8 0x81 = some (.deadtime 1#4) ∧ decodeTableWord 8 0x10 = none ∧
    decodeTableWord 32 0x00000000 = some (.nop 0#8) ∧ decodeTableWord 32 0x0000FF05 = some (.clearFaults 0xF#4 0xF#4) ∧
    decodeTableWord 32 0x00000007 = none := by decide

/-! ### One step of each instruction -/

/-- 42 R203, the example: the byte goes to the register requested before. -/
theorem test_null0 : after (step (sending 0x00#8 .s2 ⟨.success, 0x5A#8⟩)) (fun t =>
    t.status.r2 == 0x5A#8 && t.stat.snapValid == 0b0101#4 && t.stat.prevReq == .s0) = true := by decide
/-- 42 R204, the example. -/
theorem test_null1 : after (step (sending 0x01#8 .s0 ⟨.success, 0x00#8⟩)) (fun t =>
    t.status.r0 == 0x00#8 && t.stat.prevReq == .s1) = true := by decide
/-- 42 R205, the example: nothing is latched from `None`. -/
theorem test_null2 : after (step (sending 0x02#8 .noReq ⟨.success, 0xFF#8⟩)) (fun t =>
    t.status == active.status && t.stat.snapValid == 1#4 && t.stat.prevReq == .s2) = true := by decide
/-- 42 R206, the example; 95 L2.4 sequence D for LASTXFER. -/
theorem test_null3 : after (step (sending 0x03#8 .s0 ⟨.success, 0x55#8⟩)) (fun t =>
    t.status.r0 == 0x55#8 && t.stat.prevReq == .s3 && lastXferWord t.lastXfer == 0x00085503#32) = true := by decide
/-- 41 R174, the example. -/
theorem test_mask0 : after (step (sending 0x2F#8 .noReq ⟨.success, 0xA5#8⟩)) (fun t =>
    t.trace == [(2526000, .frame 0x2F#8 .success 0xA5#8)] && t.status == active.status && t.stat.prevReq == .s0) = true := by
  decide
/-- 42 R214, the example: 0x81 reaches STATUS[0]. -/
theorem test_mask1 : after (step (sending 0x3F#8 .s0 ⟨.success, 0x81#8⟩)) (fun t =>
    t.status.r0 == 0x81#8 && t.stat.prevReq == .s0) = true := by decide
/-- 95 P2: a `Busy` on MODE. -/
theorem test_mode_busy : after (step (sending 0x43#8 .s0 ⟨.busy, 0x77#8⟩)) (fun t =>
    t.stat.prevReq == .unknown && t.stat.retries == 1#4 && t.status == active.status &&
    lastXferWord t.lastXfer == 0x00090043#32) = true := by decide
/-- 10_state R24: RETRIES saturates at 15. -/
theorem test_retries_saturate : retriesNext 15#4 = 15#4 ∧ retriesNext 14#4 = 15#4 := by decide
/-- 95 P6: a `Timeout` on CLINT0. -/
theorem test_clint0_timeout : after (step (sending 0x60#8 .s0 ⟨.timeout, 0xEE#8⟩)) (fun t =>
    t.stat.prevReq == .unknown && lastXferWord t.lastXfer == 0x000C0060#32) = true := by decide
/-- 95 P5: CLINT1. -/
theorem test_clint1 : after (step (sending 0x7F#8 .s0 ⟨.success, 0x44#8⟩)) (fun t =>
    t.status.r0 == 0x44#8 && lastXferWord t.lastXfer == 0x0008447F#32) = true := by decide
/-- 95 P3: an `Error` on DEADTIME. -/
theorem test_deadtime_error : after (step (sending 0x81#8 .s0 ⟨.error, 0x10#8⟩)) (fun t =>
    lastXferWord t.lastXfer == 0x000A0081#32 && t.seq.lastRes == .error && t.seq.spc == .xUnsel) = true := by decide
/-- 95 L2.6 row 12. -/
theorem test_nop : after (step (writing State.reset 0x00 0x00000000#32)) (fun t =>
    t.trace == [(0, .host 0#3 0#8)] && t.result == .success && stat t == 0#32) = true := by decide
/-- 95 L2.6 row 20 and P6: a busy CTRL write is lost. -/
theorem test_busy_write_lost : after (step (writing { active with stat.busy := true } 0x00 0x00000001#32)) (fun t =>
    stat t == 0x0011301E#32 && t.trace == []) = true := by decide
/-- 95 P1: right after INIT, STAT = 0x00000008. -/
theorem test_init_accepted : after (step (writing State.reset 0x00 0x00000001#32)) (fun t =>
    stat t == 0x00000008#32 && t.seq.spc == .bRstAssert && t.trace == [(0, .host 1#3 0#8), (0, .state .poweredOff)]) = true := by
  decide
/-- 95 P4: dead time 20000. -/
theorem test_init_out_of_range : after (step (writing { State.reset with cfg0 := 0x4E2003FF#32 } 0x00 0x00000001#32)) (fun t =>
    stat t == 0x00000007#32 && t.result == .outOfRange && dtcodeWord t == 0xFF#32 &&
    t.trace == [(0, .host 1#3 0#8), (0, .state .poweredOff), (0, .state .faulted), (0, .done .outOfRange)]) = true := by decide
/-- 95 P6, the end: SHUTDOWN keeps FAULT_AT and CFG_STEP. -/
theorem test_shutdown : after (step (writing { active with
      stat := { active.stat with state := .faulted, faultAt := .active, prevReq := .unknown } } 0x00 0x00000002#32)) (fun t =>
    stat t == 0x00003600#32 && t.result == .success && t.lines == Lines.reset && rstO t == false && csO t == true) = true := by
  decide
/-- 95 P6: SEND 0x60 is accepted. -/
theorem test_send_accepted : after (step (writing active 0x00 0x00006003#32)) (fun t =>
    stat t == 0x0011300E#32 && t.seq.opList == [0x60#8]) = true := by decide
/-- 95 L2.6 rows 7 and 16. -/
theorem test_send_refused :
    after (step (writing State.reset 0x00 0x00000003#32)) (fun t => t.result == .fail) = true ∧
    after (step (writing active 0x00 0x00002F03#32)) (fun t => t.result == .invalidArgument && stat t == 0x00113006#32) = true := by
  decide
/-- 95 P5: READ_STATUS 2. -/
theorem test_read_status : after (step (writing active 0x00 0x00000204#32)) (fun t =>
    stat t == 0x0011300E#32 && t.seq.opList == [0x02#8, 0x00#8]) = true := by decide
/-- 95 L2.6 rows 8 and 17. -/
theorem test_read_status_refused :
    after (step (writing State.reset 0x00 0x00000004#32)) (fun t => t.result == .fail) = true ∧
    after (step (writing active 0x00 0x00000404#32)) (fun t => t.result == .invalidArgument && !t.stat.busy) = true := by decide
/-- 95 P5 and 42 R211: CLEAR_FAULTS 0xF, 0xF and 0x0, 0x8. -/
theorem test_clear_faults :
    after (step (writing active 0x00 0x0000FF05#32)) (fun t => t.seq.opList == [0x6F#8, 0x7F#8]) = true ∧
    after (step (writing active 0x00 0x00008005#32)) (fun t => t.seq.opList == [0x60#8, 0x78#8]) = true := by decide
/-- 95 L2.6 row 9. -/
theorem test_clear_faults_outside_active :
    after (step (writing State.reset 0x00 0x00000005#32)) (fun t => t.result == .fail && t.stat.state == .poweredOff) = true := by
  decide
/-- 95 L2.6 rows 10 and 11: reserved OP. -/
theorem test_reserved_op :
    after (step (writing State.reset 0x00 0x00000006#32)) (fun t => t.result == .invalidArgument) = true ∧
    after (step (writing active 0x00 0x00000007#32)) (fun t => t.result == .invalidArgument) = true := by decide

/-! ### The registers, the sequencer and the codec -/

/-- 95 L2.6 rows 1 and 14: bits [15:12] are dropped, CS_POL moves `cs_o`. -/
theorem test_cfg0_write : after (step (writing State.reset 0x0C 0xFFFFFFFF#32)) (fun t =>
    t.cfg0 == 0xFFFF0FFF#32 && dtcodeWord t == 255#32 && t.trace == [(0, .line .cs false)] && csO t == false) = true := by decide
/-- 95 L2.6 row 19. -/
theorem test_cfg_locked : after (step (writing active 0x10 1000#32)) (fun t =>
    t.result == .readOnly && t.cfg1 == 2000000#32) = true := by decide
/-- 95 L2.6 row 22. -/
theorem test_stat_w1c :
    after (step (writing { active with stat.cmdLost := true } 0x04 0x10#32)) (fun t => stat t == 0x00113006#32) = true ∧
    after (step (writing { active with stat.cmdLost := true } 0x04 0xFFFFFFEF#32)) (fun t => stat t == 0x00113016#32) = true := by
  decide
/-- 95 P1, the end state read back. -/
theorem test_reads :
    readReg 0x00 active = 0#32 ∧ stat active = 0x00113006#32 ∧ readReg 0x08 active = 0#32 ∧ readReg 0x0C active = 0x01F403FF#32 ∧
    readReg 0x10 active = 0x001E8480#32 ∧ readReg 0x14 active = 0x00000010#32 ∧ readReg 0x18 active = 0x00000009#32 ∧
    readReg 0x1C active = 0x00081081#32 := by decide
/-- 20_memory R81, R83. -/
theorem test_bus_errors :
    after (step (reading active 0x20)) (fun t => t.bus == .error) = true ∧
    after (step (reading active 0x06)) (fun t => t.bus == .error) = true ∧
    after (step { active with env.moves := [.host (.write 0 1 2#32)] }) (fun t => t.bus == .error && t.trace == []) = true := by
  decide
/-- 43 R255, the example. -/
theorem test_rst_assert : after (step (atLabel .bRstAssert .bringup .poweredOff enabled)) (fun t =>
    t.trace.map Prod.snd == [.line .rst true, .line .en1 false, .line .en2 false, .line .cs false, .line .ls false,
      .line .hs false, .state .resetAsserted] && t.stat.prevReq == .noReq && t.seq.waitD == 2500000) = true := by decide
/-- 43 R254: a fourth `Busy` faults with `Fail` (95 P7: RETRIES = 4). -/
theorem test_busy_exhausted : after (step { atLabel .xResult .bringup .configuring enabled with
      seq := { active.seq with spc := .xResult, attempt := 4, lastRes := .busy } }) (fun t =>
    t.stat.state == .faulted && t.result == .fail && t.stat.faultAt == .configuring && t.lines.en1) = true := by decide
/-- 40 R151 and 95 L1: WaitCycles. -/
theorem test_wait_cycles :
    waitCycles 80000000 2500000 = 200000 ∧ waitCycles 112000000 16000 = 1792 ∧ waitCycles 0 5 = 4 ∧ waitCycles 80000000 0 = 4 ∧
    waitCycles 80000000 100 = 8 ∧ waitCycles 4294967295 2500000 = 10737420 := by decide
/-- 42 R218 and 95: DtEncode. -/
theorem test_dt_encode :
    dtEncode 17000000 500 = 9 ∧ dtEncode 17000000 29 = 0 ∧ dtEncode 17000000 30 = 1 ∧ dtEncode 17000000 14970 = 254 ∧
    dtEncode 17000000 14971 = 255 ∧ dtEncode 17000000 65535 = 255 := by decide
/-- 43 R263, the example. -/
theorem test_cfg_frames : cfgFrames Params.default 0x01F403FF#32 = [0x2F#8, 0x3F#8, 0x43#8, 0x81#8] := by decide
/-- 70 R397: BUSY = 0 ends a run only after the host's last access, and then no access is made. -/
theorem test_end_of_run :
    runOver State.reset = false ∧
    after (step { active with env.moves := [.hostEnds] }) (fun t => runOver t && observe t == observe active) = true ∧
    after (step { writing active 0x00 2#32 with env.hostEnded := true }) (fun t => observe t == observe active) = true ∧
    (observe active).registers =
      [0#32, 0x00113006#32, 0#32, 0x01F403FF#32, 2000000#32, 0x10#32, 9#32, 0x00081081#32] := by decide
/-- 20_memory R89: the read-only registers ignore writes. -/
theorem test_read_only_writes :
    after (step (writing active 0x08 5#32)) (fun t => observe t == observe active && t.bus == .written) = true ∧
    after (step (writing active 0x1C 5#32)) (fun t => observe t == observe active && t.bus == .written) = true := by decide
/-- A placed word is what the first step after reset runs. -/
theorem test_fetch_word :
    after (step (State.reset.withFetchWord 8 0x43)) (fun _ => true) = true ∧
    after (step ({ State.reset with env.answers := [⟨.success, 0#8⟩] }.withFetchWord 8 0x43)) (fun t =>
      t.lastXfer.tx == 0x43#8 && t.seq.spc == .xUnsel) = true ∧
    after (step (State.reset.withFetchWord 32 2)) (fun t => t.trace.head? == some (0, .host 2#3 0#8)) = true := by decide

/-! ### Witnesses: states and operands that meet the hypotheses of each statement -/

/-- Every label can be scheduled, and due where it has a wait: the hypotheses `Scheduled l s` and `Due l s` of the statements
about the sequencer. -/
theorem witness_scheduled (l : Label) : Due l { active with stat.busy := true, seq := { Seq.reset with spc := l }, env.moves := [.seq] } :=
  ⟨⟨rfl, rfl, rfl, rfl⟩, Nat.zero_le 2526000⟩
/-- A wait that is not over. -/
def early (l : Label) (d : Nat) : State :=
  { active with stat.busy := true, seq := { Seq.reset with spc := l, waitStart := 2526000, waitD := d }, env.moves := [.seq] }
theorem witness_early (l : Label) (d : Nat) (h : 0 < d) :
    Scheduled l (early l d) ∧ (early l d).env.now < (early l d).seq.waitStart + (early l d).seq.waitD :=
  ⟨⟨rfl, rfl, rfl, rfl⟩, by show 2526000 < 2526000 + d; omega⟩

theorem inv_of_wait {s : State} {d : Nat} (h : waitOf s.params s.cfg0 s.seq.spc = some d)
    (hd : s.seq.waitD = d) (hs : s.seq.waitStart ≤ s.env.now) : WaitFits s := by
  intro e he
  rw [h] at he
  cases he
  exact ⟨hd, hs⟩
theorem inv_of_no_wait {s : State} (h : waitOf s.params s.cfg0 s.seq.spc = none) : WaitFits s := by
  intro e he
  rw [h] at he
  cases he

theorem active_inv : StateInv active :=
  ⟨by decide, by decide, by decide, by decide, by decide, by decide, by decide, by decide, by decide,
   inv_of_no_wait rfl, by decide, by decide, by decide, by decide⟩

/-- In the reset pulse that began at `start`. -/
def inReset (start : Nat) : State :=
  { State.reset with
    stat.state := .resetAsserted, stat.busy := true
    seq.spc := .bRstWait, seq.waitStart := start, seq.waitD := 2500000, seq.opKind := .bringup
    env.now := 2500000, env.moves := [.seq] }
theorem inReset_early_inv : StateInv (inReset 1) :=
  ⟨by decide, by decide, by decide, by decide, by decide, by decide, by decide, by decide, by decide,
   inv_of_wait rfl rfl (by decide), by decide, by decide, by decide, by decide⟩
theorem inReset_due_inv : StateInv (inReset 0) :=
  ⟨by decide, by decide, by decide, by decide, by decide, by decide, by decide, by decide, by decide,
   inv_of_wait rfl rfl (by decide), by decide, by decide, by decide, by decide⟩

/-- In the calibration pulse (dead time 500 ns) that began at `start`. -/
def inPulse (start : Nat) : State :=
  { atLabel .bCalHold .bringup .configuring { enabled with csSel := true } with
    seq := { active.seq with spc := .bCalHold, waitStart := start, waitD := 8000 } }
theorem inPulse_early_inv : StateInv (inPulse 2518001) :=
  ⟨by decide, by decide, by decide, by decide, by decide, by decide, by decide, by decide, by decide,
   inv_of_wait rfl rfl (by decide), by decide, by decide, by decide, by decide⟩
theorem inPulse_due_inv : StateInv (inPulse 2518000) :=
  ⟨by decide, by decide, by decide, by decide, by decide, by decide, by decide, by decide, by decide,
   inv_of_wait rfl rfl (by decide), by decide, by decide, by decide, by decide⟩

theorem sending_inv : StateInv (sending 0x60#8 .s0 ⟨.success, 0x00#8⟩) :=
  ⟨by decide, by decide, by decide, by decide, by decide, by decide, by decide, by decide, by decide,
   inv_of_no_wait rfl, by decide, by decide, by decide, by decide⟩
/-- At X_RESULT of a host operation. -/
def judging (res : XferResult) (attempt : Nat) (retries : BitVec 4) : State :=
  { sending 0x60#8 .s0 ⟨.success, 0x00#8⟩ with
    stat := { active.stat with busy := true, retries := retries }
    lines := enabled
    seq := { active.seq with spc := .xResult, opList := [0x60#8], opIdx := 0, attempt := attempt, opKind := .hostop, lastRes := res } }
theorem judging_inv : StateInv (judging .timeout 1 0#4) :=
  ⟨by decide, by decide, by decide, by decide, by decide, by decide, by decide, by decide, by decide,
   inv_of_no_wait rfl, by decide, by decide, by decide, by decide⟩
/-- At H_DONE. -/
def finishing : State := { atLabel .hDone .hostop .active enabled with stat := { active.stat with busy := true } }
theorem finishing_inv : StateInv finishing :=
  ⟨by decide, by decide, by decide, by decide, by decide, by decide, by decide, by decide, by decide,
   inv_of_no_wait rfl, by decide, by decide, by decide, by decide⟩
/-- At B_EN2, EN1 on and EN2 not yet. -/
def enabling : State :=
  { State.reset with
    stat.state := .resetReleased, stat.busy := true
    lines := { rstAsserted := false, en1 := true, en2 := false, csSel := false, ls := false, hs := false }
    seq.spc := .bEn2, seq.opKind := .bringup, env.moves := [.seq] }
theorem enabling_inv : StateInv enabling :=
  ⟨by decide, by decide, by decide, by decide, by decide, by decide, by decide, by decide, by decide,
   inv_of_wait rfl rfl (by decide), by decide, by decide, by decide, by decide⟩
/-- In block reset. -/
def held : State := { State.reset with env.rstN := false, env.moves := [.host (.read 4 4)] }
theorem held_inv : StateInv held :=
  ⟨by decide, by decide, by decide, by decide, by decide, by decide, by decide, by decide, by decide,
   inv_of_no_wait rfl, by decide, by decide, by decide, by decide⟩

theorem witness_FrameDecodeEncodeAgree :
    isFrame (.mode 0xB#4) = true ∧ Instr.wf (.mode 0xB#4) = true ∧ decodeFrame 0x4B#8 = .ok (.mode 0xB#4) := by decide
theorem witness_CtrlDecodeEncodeAgree :
    isFrame (.clearFaults 1#4 2#4) = false ∧ decodeCtrl 0xFFFF21FD#32 = .ok (.clearFaults 1#4 2#4) := by decide
theorem witness_ReservedFramesRefused :
    Instr.wf (.deadtime 1#4) = true ∧ encode (.deadtime 1#4) = .frame 0x81#8 ∧
    reservedByte 0x82#8 = true ∧ active.stat.busy = false ∧ active.stat.state = .active := by decide
theorem witness_StepRunsDecodedFrame :
    Scheduled .xXfer (sending 0x60#8 .s0 ⟨.success, 0x00#8⟩) ∧
    (sending 0x60#8 .s0 ⟨.success, 0x00#8⟩).seq.opList[(sending 0x60#8 .s0 ⟨.success, 0x00#8⟩).seq.opIdx]? = some 0x60#8 ∧
    decodeFrame 0x60#8 = .ok (.clint0 0#4) := ⟨⟨rfl, rfl, rfl, rfl⟩, rfl, by decide⟩
/-- Also the host's half of the statements about CTRL writes. -/
theorem witness_StepRunsDecodedCtrl :
    HostWrites 0x00 0x00006003#32 (writing active 0x00 0x00006003#32) ∧ decodeCtrl 0x00006003#32 = .ok (.send 0x60#8) :=
  ⟨⟨rfl, rfl, rfl⟩, by decide⟩
theorem witness_FramesTransfer : frameSpec (.clint0 0#4) = some (0x60#8, .s0) ∧ frameSpec .null3 = some (0x03#8, .s3) := by decide
theorem witness_FramesRequestNext :
    frameSpec .null1 = some (0x01#8, .s1) ∧
    (nextAnswer 0x01#8 (sending 0x01#8 .s0 ⟨.success, 1#8⟩)).res = .success ∧
    (nextAnswer 0x01#8 (sending 0x01#8 .s0 ⟨.timeout, 1#8⟩)).res ≠ .success := by decide
theorem witness_FramesLeaveTheRest : isFrame (.mask1 3#4) = true := by decide
theorem not_xfer {s : State} (h : s.seq.spc ≠ .xXfer) : ¬ Scheduled .xXfer s := fun hs => h hs.2.2.2
theorem no_reset {s : State} {m : Move} {rest : List Move} (h : s.env.moves = m :: rest) (hm : m ≠ .rst false) : NoBlockReset s := by
  unfold NoBlockReset nextMove
  rw [h]
  exact hm
theorem witness_OnlyTransfersWriteLastXfer :
    frameSpec .null0 = some (0x00#8, .s0) ∧
    NoBlockReset finishing ∧ (∃ t, step finishing = .next t) ∧ ¬ Scheduled .xXfer finishing :=
  ⟨by decide, no_reset rfl (by decide), ⟨_, rfl⟩, not_xfer (by decide)⟩
theorem witness_OnlyTransfersWriteStatus :
    NoBlockReset (writing active 0x00 2#32) ∧ (∃ t, step (writing active 0x00 2#32) = .next t ∧ t.stat.prevReq = .noReq) ∧
    ¬ Scheduled .xXfer (writing active 0x00 2#32) :=
  ⟨no_reset rfl (by decide), ⟨_, rfl, by decide⟩, not_xfer (by decide)⟩
theorem witness_BusyCtrlWriteDropped :
    isFrame (.shutdown 0#8) = false ∧ finishing.stat.busy = true ∧ HostWrites 0x00 2#32 (writing finishing 0x00 2#32) ∧
    (writing finishing 0x00 2#32).stat.busy = true := ⟨by decide, by decide, ⟨rfl, rfl, rfl⟩, by decide⟩
theorem witness_IdleCtrlWriteAccepted :
    HostWrites 0x00 1#32 (writing active 0x00 1#32) ∧ (writing active 0x00 1#32).stat.busy = false ∧
    decodeCtrl 1#32 = .ok (.init 0#8) ∧
    NoBlockReset finishing ∧ finishing.stat.busy = true ∧ (∃ t, step finishing = .next t ∧ t.stat.busy = false) :=
  ⟨⟨rfl, rfl, rfl⟩, by decide, by decide, no_reset rfl (by decide), rfl, _, rfl, by decide⟩
theorem witness_NopOnlyRecords : active.stat.busy = false ∧ finishing.stat.busy = true := by decide
/-- The dead time at its boundary, 15000 ns. -/
theorem witness_InitStartsBringUp :
    let s : State := { State.reset with cfg0 := 0x3A980000#32 }
    s.stat.busy = false ∧ (cfgDeadtime s.cfg0).toNat ≤ s.params.dtMaxNs ∧ s.env.pinmapOk = true := by decide
/-- The dead time one past the boundary, 15001 ns; and a wrong pin map at 15000 ns. -/
theorem witness_InitChecksInOrder :
    (let s : State := { State.reset with cfg0 := 0x3A990000#32, env.pinmapOk := false }
     s.stat.busy = false ∧ s.lines.csSel = false ∧ s.params.dtMaxNs < (cfgDeadtime s.cfg0).toNat) ∧
    (let s : State := { State.reset with cfg0 := 0x3A980000#32, env.pinmapOk := false }
     s.stat.busy = false ∧ s.lines.csSel = false ∧ (cfgDeadtime s.cfg0).toNat ≤ s.params.dtMaxNs ∧ s.env.pinmapOk = false) := by
  decide
theorem witness_ShutdownMakesSafe : active.stat.busy = false ∧ State.reset.stat.busy = false := by decide
/-- The allowed frames at their boundaries, 0x03, 0x60, 0x7F; the refused ones beside them, 0x04, 0x5F, 0x80. -/
theorem witness_SendStartsOrRefuses :
    active.stat.busy = false ∧ active.stat.state = .active ∧ State.reset.stat.state ≠ .active ∧
    sendAllowed 0x03#8 = true ∧ sendAllowed 0x60#8 = true ∧ sendAllowed 0x7F#8 = true ∧
    sendAllowed 0x04#8 = false ∧ sendAllowed 0x5F#8 = false ∧ sendAllowed 0x80#8 = false := by decide
theorem witness_ReadStatusStartsOrRefuses :
    active.stat.busy = false ∧ active.stat.state = .active ∧ State.reset.stat.busy = false ∧ State.reset.stat.state ≠ .active ∧
    (1#6 : BitVec 6) ≠ 0#6 := by decide
theorem witness_ClearFaultsStartsOrRefuses :
    active.stat.busy = false ∧ active.stat.state = .active ∧ State.reset.stat.busy = false ∧ State.reset.stat.state ≠ .active := by
  decide
theorem witness_ReservedOpInvalid :
    HostWrites 0x00 6#32 (writing active 0x00 6#32) ∧ (writing active 0x00 6#32).stat.busy = false ∧ 6 ≤ (6#32).toNat % 8 ∧
    6 ≤ (0xFFFFFFFF#32).toNat % 8 := ⟨⟨rfl, rfl, rfl⟩, by decide, by decide, by decide⟩
/-- `Active` and idle with a plan and answers for READ_STATUS 2. -/
def readingStatus : State :=
  { active with
    env.moves := .host (.write 0 4 0x00000204#32) :: List.replicate 11 .seq
    env.answers := [⟨.success, 0x11#8⟩, ⟨.success, 0x22#8⟩] }
theorem witness_ServiceOperationsComplete :
    serviceSpec (.readStatus 2#2 0#6) = some (0x00000204#32, [0x02#8, 0x00#8]) ∧
    readingStatus.env.rstN = true ∧ readingStatus.env.hostEnded = false ∧ readingStatus.stat.busy = false ∧ readingStatus.stat.state = .active ∧
    readingStatus.env.moves =
      .host (.write readingStatus.params.baseAddr 4 0x00000204#32) :: (List.replicate (5 * 2 + 1) .seq ++ []) ∧
    readingStatus.env.answers = [0x11#8, 0x22#8].map (fun r => ⟨.success, r⟩) ++ [] := by decide
theorem witness_ReadStatusFetchesRegister :
    readingStatus.env.rstN = true ∧ readingStatus.env.hostEnded = false ∧ readingStatus.stat.busy = false ∧ readingStatus.stat.state = .active ∧
    readingStatus.env.moves =
      .host (.write readingStatus.params.baseAddr 4 (BitVec.ofNat 32 ((2 : Fin 4).val * 0x100 + 4))) ::
        (List.replicate 11 .seq ++ []) ∧
    readingStatus.env.answers = ⟨.success, 0x11#8⟩ :: ⟨.success, 0x22#8⟩ :: [] := by decide
theorem witness_AwaitElapsed :
    (∃ t, step (atLabel .bRstAssert .bringup .poweredOff enabled) = .next t ∧
      t.seq.spc ≠ (atLabel .bRstAssert .bringup .poweredOff enabled).seq.spc ∧
      waitOf t.params t.cfg0 t.seq.spc = some 2500000 ∧ t.params.waitStepCycles = 4) ∧
    (Scheduled .bRstWait (inReset 1) ∧ waitOf (inReset 1).params (inReset 1).cfg0 .bRstWait = some 2500000 ∧
      (inReset 1).env.now < (inReset 1).seq.waitStart + (inReset 1).seq.waitD) ∧
    (Scheduled .bRstWait (inReset 0) ∧ (inReset 0).seq.waitStart + (inReset 0).seq.waitD ≤ (inReset 0).env.now) :=
  ⟨⟨_, rfl, by decide, by decide, by decide⟩, ⟨⟨rfl, rfl, rfl, rfl⟩, by decide, by decide⟩, ⟨⟨rfl, rfl, rfl, rfl⟩, by decide⟩⟩
theorem witness_WaitsOfTheSequencer :
    (cfgDeadtime 0x01F40000#32).toNat = 500 ∧ waitOf Params.default 0#32 .xBackoff ≠ none := by decide
theorem witness_WaitCyclesIsTheLeast : 8 % 4 = 0 ∧ 0 < 8 ∧ 80000000 * 100 ≤ 8 * 1000000000 := by decide
theorem witness_TransferProcedureSteps :
    Scheduled .xXfer (sending 0x60#8 .s0 ⟨.success, 0x00#8⟩) ∧ decodeFrame 0x60#8 = .ok (.clint0 0#4) ∧
    Scheduled .xSel (atLabel .xSel .hostop .active enabled) ∧ Scheduled .xUnsel (atLabel .xUnsel .hostop .active enabled) ∧
    Due .xBackoff (atLabel .xBackoff .hostop .active enabled) ∧ Scheduled .xNext (atLabel .xNext .hostop .active enabled) :=
  ⟨⟨rfl, rfl, rfl, rfl⟩, by decide, ⟨rfl, rfl, rfl, rfl⟩, ⟨rfl, rfl, rfl, rfl⟩, ⟨⟨rfl, rfl, rfl, rfl⟩, by decide⟩,
   ⟨rfl, rfl, rfl, rfl⟩⟩
/-- The retry limit at its boundary: attempt 3 may be retried, attempt 4 may not. -/
theorem witness_ResultHandling :
    Scheduled .xResult (judging .success 1 0#4) ∧ (judging .success 1 0#4).seq.lastRes = .success ∧
    Scheduled .xResult (judging .busy 3 3#4) ∧ (judging .busy 3 3#4).seq.attempt ≤ (judging .busy 3 3#4).params.busyRetryMax ∧
    Scheduled .xResult (judging .busy 4 4#4) ∧ (judging .busy 4 4#4).params.busyRetryMax < (judging .busy 4 4#4).seq.attempt ∧
    (judging .error 1 0#4).seq.lastRes = .error ∧ (judging .invalidArgument 1 0#4).seq.lastRes = .invalidArgument ∧
    (judging .timeout 1 0#4).seq.lastRes = .timeout :=
  ⟨⟨rfl, rfl, rfl, rfl⟩, by decide, ⟨rfl, rfl, rfl, rfl⟩, by decide, ⟨rfl, rfl, rfl, rfl⟩, by decide, by decide, by decide,
   by decide⟩
theorem witness_FaultEntry : StateInv (judging .timeout 1 0#4) ∧ Scheduled .xResult (judging .timeout 1 0#4) :=
  ⟨judging_inv, rfl, rfl, rfl, rfl⟩
theorem witness_ResetPulseStarts : Scheduled .bRstAssert (atLabel .bRstAssert .bringup .poweredOff Lines.reset) :=
  ⟨rfl, rfl, rfl, rfl⟩
theorem witness_ResetPulseHeldThenReleased :
    (StateInv (inReset 1) ∧ Scheduled .bRstWait (inReset 1) ∧
      (inReset 1).env.now < (inReset 1).seq.waitStart + (inReset 1).params.tRstNs) ∧
    (StateInv (inReset 0) ∧ Scheduled .bRstWait (inReset 0) ∧
      (inReset 0).seq.waitStart + (inReset 0).params.tRstNs ≤ (inReset 0).env.now) :=
  ⟨⟨inReset_early_inv, ⟨rfl, rfl, rfl, rfl⟩, by decide⟩, ⟨inReset_due_inv, ⟨rfl, rfl, rfl, rfl⟩, by decide⟩⟩
theorem witness_EnablesInOrder :
    Due .bEn1 { enabling with seq.spc := .bEn1, lines.en1 := false } ∧ Due .bEn2 enabling ∧
    (StateInv enabling ∧ ∃ t, step enabling = .next t ∧ Adds [.line .en2 true] enabling t) ∧
    (Scheduled .bEn1 (early .bEn1 5) ∧ (early .bEn1 5).env.now < (early .bEn1 5).seq.waitStart + (early .bEn1 5).seq.waitD) :=
  ⟨⟨⟨rfl, rfl, rfl, rfl⟩, by decide⟩, ⟨⟨rfl, rfl, rfl, rfl⟩, by decide⟩, ⟨enabling_inv, _, rfl, by unfold Adds; decide⟩,
   witness_early .bEn1 5 (by decide)⟩
theorem witness_LowSidePulse :
    Due .bEnWait (atLabel .bEnWait .bringup .resetReleased enabled) ∧
    Due .bLsHold (atLabel .bLsHold .bringup .lowSideToggling { enabled with ls := true }) ∧
    (Scheduled .bLsHold (early .bLsHold 1000) ∧
      (early .bLsHold 1000).env.now < (early .bLsHold 1000).seq.waitStart + (early .bLsHold 1000).seq.waitD) :=
  ⟨⟨⟨rfl, rfl, rfl, rfl⟩, by decide⟩, ⟨⟨rfl, rfl, rfl, rfl⟩, by decide⟩, witness_early .bLsHold 1000 (by decide)⟩
theorem witness_ConfigurationStarts :
    Due .bHsHold (atLabel .bHsHold .bringup .highSideToggling { enabled with hs := true }) ∧
    (Scheduled .bHsHold (early .bHsHold 16000) ∧
      (early .bHsHold 16000).env.now < (early .bHsHold 16000).seq.waitStart + (early .bHsHold 16000).seq.waitD) :=
  ⟨⟨⟨rfl, rfl, rfl, rfl⟩, by decide⟩, witness_early .bHsHold 16000 (by decide)⟩
theorem witness_CfgFramesFromCfg0 : Params.default.wf = true ∧ 0x2F#8 ∈ cfgFrames Params.default 0x01F403FF#32 := by decide
theorem witness_CalibrationPulse :
    (Scheduled .bCalSel { atLabel .bCalSel .bringup .configuring enabled with cfg0 := 0x000003FF#32 } ∧
      cfgDeadtime 0x000003FF#32 = 0#16) ∧
    (Scheduled .bCalSel (atLabel .bCalSel .bringup .configuring enabled) ∧
      cfgDeadtime (atLabel .bCalSel .bringup .configuring enabled).cfg0 ≠ 0#16) ∧
    (StateInv (inPulse 2518001) ∧ Scheduled .bCalHold (inPulse 2518001) ∧
      (inPulse 2518001).env.now < (inPulse 2518001).seq.waitStart +
        (inPulse 2518001).params.calFactor * (cfgDeadtime (inPulse 2518001).cfg0).toNat) ∧
    (StateInv (inPulse 2518000) ∧ Scheduled .bCalHold (inPulse 2518000) ∧
      (inPulse 2518000).seq.waitStart + (inPulse 2518000).params.calFactor * (cfgDeadtime (inPulse 2518000).cfg0).toNat ≤
        (inPulse 2518000).env.now) :=
  ⟨⟨⟨rfl, rfl, rfl, rfl⟩, by decide⟩, ⟨⟨rfl, rfl, rfl, rfl⟩, by decide⟩,
   ⟨inPulse_early_inv, ⟨rfl, rfl, rfl, rfl⟩, by decide⟩, ⟨inPulse_due_inv, ⟨rfl, rfl, rfl, rfl⟩, by decide⟩⟩
theorem witness_OperationsEndInSuccess :
    Scheduled .bDone (atLabel .bDone .bringup .configuring enabled) ∧ Scheduled .hDone finishing ∧ StateInv finishing :=
  ⟨⟨rfl, rfl, rfl, rfl⟩, ⟨rfl, rfl, rfl, rfl⟩, finishing_inv⟩
theorem witness_StatRegister :
    HostReads 0x04 (reading active 0x04) ∧ HostWrites 0x04 0x10#32 (writing active 0x04 0x10#32) := ⟨⟨rfl, rfl, rfl⟩, ⟨rfl, rfl, rfl⟩⟩
theorem witness_ReadsReturnRegisters :
    HostReads 0x00 (reading active 0x00) ∧ HostReads 0x1C (reading active 0x1C) ∧
    readNumber (reading active 0x1C) 0x1C = some 0x00081081 ∧ readNumber (reading active 0x14) 0x14 = some 0x10 ∧
    readNumber (reading active 0x18) 0x18 = some 9 ∧
    HostWrites 0x08 5#32 (writing active 0x08 5#32) ∧ HostWrites 0x1C 5#32 (writing active 0x1C 5#32) :=
  ⟨⟨rfl, rfl, rfl⟩, ⟨rfl, rfl, rfl⟩, by decide, by decide, by decide, ⟨rfl, rfl, rfl⟩, ⟨rfl, rfl, rfl⟩⟩
/-- A byte-wide access, an unaligned one, and offsets 0x20 and 0x3C. -/
theorem witness_BadAccessesAreBusErrors :
    nextMove { active with env.moves := [.host (.write 0 1 0#32)] } = .host (.write (active.params.baseAddr + 0) 1 0#32) ∧
    nextMove (reading active 0x1E) = .host (.read (active.params.baseAddr + 0x1E) 4) ∧ 0x1E % 4 ≠ 0 ∧
    nextMove (reading active 0x20) = .host (.read (active.params.baseAddr + 0x20) 4) ∧
    nextMove (reading active 0x3C) = .host (.read (active.params.baseAddr + 0x3C) 4) ∧ 0x3C < 64 ∧
    active.env.hostEnded = false := by decide
theorem witness_ConfigurationWrites :
    HostWrites 0x0C 0#32 (writing finishing 0x0C 0#32) ∧ (writing finishing 0x0C 0#32).stat.busy = true ∧
    HostWrites 0x10 0#32 (writing active 0x10 0#32) ∧ (writing active 0x10 0#32).stat.busy = false ∧
    active.stat.state ≠ .poweredOff ∧ active.stat.state ≠ .faulted ∧
    HostWrites 0x0C 0x800#32 (writing State.reset 0x0C 0x800#32) ∧ State.reset.stat.busy = false ∧
    State.reset.stat.state = .poweredOff ∧ HostWrites 0x10 0#32 (writing State.reset 0x10 0#32) :=
  ⟨⟨rfl, rfl, rfl⟩, by decide, ⟨rfl, rfl, rfl⟩, by decide, by decide, by decide, ⟨rfl, rfl, rfl⟩, by decide, by decide, ⟨rfl, rfl, rfl⟩⟩
theorem witness_DtEncodeNearest : 65535 < 65536 ∧ 15029 < 15030 ∧ 14971 ≤ 14971 := by decide
theorem witness_DeadTimeRoundTrip : 15000 ≤ 15000 := by decide
theorem witness_StatusDecoding : (1 : Fin 4) ≠ 0 ∧ (3 : Fin 4) ≠ 0 := by decide
theorem witness_ResetValues :
    nextMove { active with env.moves := [.rst false] } = .rst false ∧ active.params = Params.default := by decide
theorem witness_BlockResetHolds :
    nextMove { active with env.moves := [.rst false] } = .rst false ∧
    (StateInv held ∧ held.env.rstN = false ∧ nextMove held ≠ .rst true ∧ ∃ t, step held = .next t) ∧
    nextMove { held with env.moves := [.rst true] } = .rst true :=
  ⟨rfl, ⟨held_inv, rfl, by decide, _, rfl⟩, rfl⟩
theorem witness_InputsChangeOnlyThemselves :
    nextMove { active with env.moves := [.advance 5] } = .advance 5 ∧ nextMove { active with env.moves := [.sysclk 9#32] } = .sysclk 9#32 ∧
    nextMove { active with env.moves := [.pinmap false] } = .pinmap false ∧
    nextMove { active with env.moves := [.hostEnds] } = .hostEnds ∧
    (let s : State := { active with env.moves := [.clock], seq.waitCount := 1, seq.waitPhase := 2 }
     nextMove s = .clock ∧ 0 < s.seq.waitCount ∧ s.seq.waitPhase + 1 < s.params.waitStepCycles) ∧
    (let s : State := { active with env.moves := [.clock], seq.waitCount := 1, seq.waitPhase := 3 }
     nextMove s = .clock ∧ 0 < s.seq.waitCount ∧ s.params.waitStepCycles ≤ s.seq.waitPhase + 1) := by decide
theorem witness_EveryStepKeepsInvariant : StateInv enabling ∧ ∃ t, step enabling = .next t := ⟨enabling_inv, _, rfl⟩
theorem witness_NoStepStops : StateInv (sending 0x60#8 .s0 ⟨.success, 0x00#8⟩) := sending_inv
theorem witness_StateChangesFollowTheTable :
    StateInv (inReset 0) ∧ NoBlockReset (inReset 0) ∧
    ∃ t, step (inReset 0) = .next t ∧ t.stat.state ≠ (inReset 0).stat.state :=
  ⟨inReset_due_inv, no_reset rfl (by decide), _, rfl, by decide⟩
theorem witness_ConfigurationLocked :
    NoBlockReset (writing State.reset 0x0C 1#32) ∧
    ∃ t, step (writing State.reset 0x0C 1#32) = .next t ∧ t.cfg0 ≠ (writing State.reset 0x0C 1#32).cfg0 :=
  ⟨no_reset rfl (by decide), _, rfl, by decide⟩
/-- Idle with the host's last access behind it, and a host move still planned. -/
def ended : State := { writing active 0x00 2#32 with env.hostEnded := true }
theorem witness_CompletionIsSignalled :
    NoBlockReset finishing ∧ finishing.stat.busy = true ∧ (∃ t, step finishing = .next t ∧ t.stat.busy = false) ∧
    NoBlockReset (inReset 0) ∧ (inReset 0).stat.busy = true ∧ (∃ t, step (inReset 0) = .next t ∧ t.stat.busy = true) ∧
    NoBlockReset ended ∧ runOver ended = true ∧ (∃ t, step ended = .next t) :=
  ⟨no_reset rfl (by decide), rfl, ⟨_, rfl, by decide⟩, no_reset rfl (by decide), rfl, ⟨_, rfl, by decide⟩,
   no_reset rfl (by decide), rfl, _, rfl⟩
theorem witness_TraceExplainsLinesAndState :
    StateInv (inReset 0) ∧ NoBlockReset (inReset 0) ∧ ∃ t, step (inReset 0) = .next t ∧ t.lines ≠ (inReset 0).lines :=
  ⟨inReset_due_inv, no_reset rfl (by decide), _, rfl, by decide⟩
theorem witness_FramesAreLegalAndBracketed :
    StateInv (sending 0x60#8 .s0 ⟨.success, 0x00#8⟩) ∧
    ∃ t, step (sending 0x60#8 .s0 ⟨.success, 0x00#8⟩) = .next t ∧
      Adds [.frame 0x60#8 .success 0x00#8] (sending 0x60#8 .s0 ⟨.success, 0x00#8⟩) t :=
  ⟨sending_inv, _, rfl, by unfold Adds; decide⟩
theorem witness_HostCannotDisturbOperation :
    nextMove (writing finishing 0x00 2#32) = .host (.write 0 4 2#32) ∧ (writing finishing 0x00 2#32).stat.busy = true := by decide
theorem witness_CmdLostIsSticky :
    NoBlockReset (writing finishing 0x0C 0#32) ∧
    (∃ t, step (writing finishing 0x0C 0#32) = .next t ∧ t.stat.cmdLost ≠ (writing finishing 0x0C 0#32).stat.cmdLost) :=
  ⟨no_reset rfl (by decide), _, rfl, by decide⟩
theorem witness_StatusNeverSteers : ∃ t, step (reading active 0x14) = .next t ∧ t.bus = .data 0x10#32 := ⟨_, rfl, by decide⟩
/-- Idle after reset with a plan and answers for a whole bring-up, with the reset configuration. -/
def starting : State :=
  { State.reset with
    env.moves := bringUpMoves Params.default State.reset.cfg0
    env.answers := [⟨.success, 1#8⟩, ⟨.success, 2#8⟩, ⟨.success, 3#8⟩, ⟨.success, 4#8⟩] }
theorem witness_BringUpReachesActive :
    starting.params.wf = true ∧ starting.env.rstN = true ∧ starting.env.hostEnded = false ∧ starting.stat.busy = false ∧
    (cfgDeadtime starting.cfg0).toNat ≤ starting.params.dtMaxNs ∧ starting.env.pinmapOk = true ∧
    starting.env.moves = bringUpMoves starting.params starting.cfg0 ++ [] ∧
    starting.env.answers = ⟨.success, 1#8⟩ :: ⟨.success, 2#8⟩ :: ⟨.success, 3#8⟩ :: ⟨.success, 4#8⟩ :: [] := by decide

end Sys2Proof.Tests
end

section
/-! SUPPORT. The registers as the host sees them: one access rule for a read and one for a write of a register,
the STAT word as a number, the pins' levels, and the values after block reset. -/

namespace Sys2Proof.Proofs

open Sys2Proof.Machine Sys2Proof.Safety Sys2Proof.Claims

/-! ### The register window -/

/-- An aligned 32-bit access at the offset of a register is performed (20_memory R80, R81). -/
theorem accessOk_register {off : Nat} (halign : off % 4 = 0) (hlt : off < 0x20) : accessOk off 4 = true := by
  simp [accessOk, halign, hlt]

/-- A register lies in the window (20_memory R80). -/
theorem inWindow_register {base off : Nat} (hlt : off < 0x20) : inWindow base (base + off) = true := by
  simp only [inWindow, Bool.and_eq_true, decide_eq_true_eq]
  omega

/-- A read of a register goes to that register (20_memory R80, R81). -/
theorem busTarget_read_register {base off : Nat} (halign : off % 4 = 0) (hlt : off < 0x20) :
    busTarget base (.read (base + off) 4) = .read off := by
  simp [busTarget, inWindow_register hlt, accessOk_register halign hlt]

/-- A write of a register goes to that register (20_memory R80, R81). -/
theorem busTarget_write_register {base off : Nat} {v : Word} (halign : off % 4 = 0) (hlt : off < 0x20) :
    busTarget base (.write (base + off) 4 v) = .write off v := by
  simp [busTarget, inWindow_register hlt, accessOk_register halign hlt]

/-- A step in which the host, which still makes accesses, moves is its access, after the move is taken. -/
theorem step_of_host {s : State} {a : HostAccess} (hmove : nextMove s = .host a) (hopen : s.env.hostEnded = false) :
    step s = hostMove a (takeMove s) := by
  rw [step_of_move hmove]
  exact hostTurn_open a (by rw [takeMove_env_hostEnded, hopen])

/-- The host's read of a register puts its word on the bus and changes nothing else (20_memory R80, R89). -/
theorem step_of_hostReads {off : Nat} {s : State} (h : HostReads off s) (halign : off % 4 = 0) (hlt : off < 0x20) :
    step s = .next { takeMove s with bus := .data (readReg off (takeMove s)) } := by
  obtain ⟨hmove, hrst, hopen⟩ := h
  simp [step_of_host hmove hopen, hostMove, busTarget_read_register halign hlt, hrst]

/-- The host's write of a register other than CTRL is `writeReg`, after the write is answered (20_memory R80). -/
theorem step_of_hostWrites_register {off : Nat} {v : Word} {s : State} (h : HostWrites off v s) (hne : off ≠ 0)
    (halign : off % 4 = 0) (hlt : off < 0x20) :
    step s = .next (writeReg off v { takeMove s with bus := .written }) := by
  obtain ⟨hmove, hrst, hopen⟩ := h
  simp [step_of_host hmove hopen, hostMove, busTarget_write_register halign hlt, hrst]

/-! ### The STAT word -/

/-- Concatenation as a sum: the low operand has the low bits. -/
theorem toNat_append_eq_add {m n : Nat} (x : BitVec m) (y : BitVec n) :
    (x ++ y).toNat = x.toNat * 2 ^ n + y.toNat := by
  rw [BitVec.toNat_append, ← Nat.shiftLeft_add_eq_or_of_lt y.isLt, Nat.shiftLeft_eq]

/-- The concatenated fields of STAT are the sum of the fields, each at its weight (10_state R24). -/
theorem statWord_toNat (st : Stat) : (statWord st).toNat = statNumber st := by
  simp only [statWord, statNumber, toNat_append_eq_add, BitVec.toNat_ofBool, BitVec.toNat_ofNat]
  omega

/-- The word a read of STAT returns is its number (10_state R24). -/
theorem statWord_eq_ofNat (st : Stat) : statWord st = BitVec.ofNat 32 (statNumber st) := by
  rw [← statWord_toNat, BitVec.ofNat_toNat, BitVec.setWidth_eq]

/-- Settles O38: a read of STAT returns `statWord`, which is `statNumber` by the weights of its fields; a write is
`statWrite`. -/
theorem statRegister : Obligations.StatRegister := by
  unfold Obligations.StatRegister
  refine ⟨fun s hread => ?_, by decide, by decide, rfl, fun v s hwrite => ?_⟩
  · rw [step_of_hostReads hread (by decide) (by decide)]
    simp [readReg, statWord_eq_ofNat]
  · rw [step_of_hostWrites_register hwrite (by decide) (by decide) (by decide)]
    simp [writeReg, statWrite, cmdLostAfter]

/-! ### The pins -/

/-- The lines of a group are all on or all off (10_state R34). -/
theorem groupO_eq (level : Bool) : groupO level = if level then 0b111#3 else 0b000#3 := by
  cases level <;> rfl

/-- `cs_o` is CS_SEL, inverted where the chip select is active low (10_state R33). -/
theorem csO_eq (s : State) : csO s = if s.cfg0.getLsbD 11 then s.lines.csSel else !s.lines.csSel := by
  rw [csO, cfgCsPol]
  cases s.cfg0.getLsbD 11 with
  | true => exact Bool.xor_false _
  | false => exact Bool.xor_true _

/-- Settles O45: RST, EN1 and EN2 are the definitions; CS and the two groups are their lemmas. -/
theorem pinLevels : Obligations.PinLevels := by
  intro s
  exact ⟨rfl, rfl, rfl, csO_eq s, groupO_eq s.lines.ls, groupO_eq s.lines.hs⟩

/-! ### Block reset -/

/-- Block reset gives the values of the reset table, the parameters at their defaults (10_state R44). -/
theorem atReset_resetFields (trace : List (Nat × Event)) (bus : BusResp) (env : Env) :
    ResetFields (State.atReset trace bus env Params.default) := by
  simp only [ResetFields, State.atReset]
  decide

/-- A step in which `rst_n` goes low is block reset (70_reset_and_hazards R380). -/
theorem step_of_rst_low {s : State} (h : nextMove s = .rst false) : step s = .next (blockReset (takeMove s)) := by
  rw [step_of_move h]
  rfl

/-- Settles O46: both states are `State.atReset` with the default parameters. -/
theorem resetValues : Obligations.ResetValues := by
  refine ⟨atReset_resetFields _ _ _, fun s hmove hparams => ⟨_, step_of_rst_low hmove, ?_⟩⟩
  rw [blockReset, takeMove_params, hparams]
  exact atReset_resetFields _ _ _

end Sys2Proof.Proofs
end

section
/-! SUPPORT. The host's memory window (20_memory): the accesses that are bus errors, and the frames on the trace: no
move but the sequencer's at X_XFER records one. -/

namespace Sys2Proof.Proofs

open Sys2Proof.Machine Sys2Proof.Safety Sys2Proof.Claims

/-! ### Bus errors -/

/-- An offset below 64 lies in the window (20_memory R80). -/
theorem inWindow_of_lt {base off : Nat} (hlt : off < 64) : inWindow base (base + off) = true := by
  simp only [inWindow, Bool.and_eq_true, decide_eq_true_eq]
  omega

/-- Which accesses the PDC does not perform (20_memory R81, R83). -/
theorem accessOk_eq_false_iff {off width : Nat} :
    accessOk off width = false ↔ width ≠ 4 ∨ off % 4 ≠ 0 ∨ 0x20 ≤ off := by
  simp only [accessOk, Bool.and_eq_false_iff, beq_eq_false_iff_ne, decide_eq_false_iff_not, Nat.not_lt, or_assoc]

/-- A read in the window that is not performed is a bus error (20_memory R83). -/
theorem busTarget_read_error {base off width : Nat} (hlt : off < 64) (hbad : accessOk off width = false) :
    busTarget base (.read (base + off) width) = .error := by
  simp [busTarget, inWindow_of_lt hlt, hbad]

/-- A write in the window that is not performed is a bus error (20_memory R83). -/
theorem busTarget_write_error {base off width : Nat} {v : Word} (hlt : off < 64) (hbad : accessOk off width = false) :
    busTarget base (.write (base + off) width v) = .error := by
  simp [busTarget, inWindow_of_lt hlt, hbad]

/-- A bus error changes nothing but the answer on the bus (20_memory R83). -/
theorem step_of_busError {s : State} {a : HostAccess} (hmove : nextMove s = .host a) (hopen : s.env.hostEnded = false)
    (herr : busTarget s.params.baseAddr a = .error) : step s = .next { takeMove s with bus := .error } := by
  simp [step_of_host hmove hopen, hostMove, herr]

/-- Settles O40: the access, a read or a write, goes to a bus error. -/
theorem badAccessesAreBusErrors : Obligations.BadAccessesAreBusErrors := by
  intro s off width v hmove hopen hlt hbad
  rcases hmove with hread | hwrite
  · exact step_of_busError hread hopen (busTarget_read_error hlt (accessOk_eq_false_iff.mpr hbad))
  · exact step_of_busError hwrite hopen (busTarget_write_error hlt (accessOk_eq_false_iff.mpr hbad))

/-! ### What the decoders accept -/

/-- The 256 bytes: one that decodes is the encoding of its instruction (42_command_codec R200, R201), and is no reserved
frame (30_encoding R117). -/
theorem decodeFrame_sound : ∀ b : Byte, ∀ i ∈ (decodeFrame b).toOption, encode i = .frame b ∧ reservedByte b = false := by
  decide

theorem encode_of_decodeFrame {b : Byte} {i : Instr} (h : decodeFrame b = .ok i) : encode i = .frame b :=
  (decodeFrame_sound b i (by rw [h]; rfl)).1

theorem reservedByte_of_decodeFrame {b : Byte} {i : Instr} (h : decodeFrame b = .ok i) : reservedByte b = false :=
  (decodeFrame_sound b i (by rw [h]; rfl)).2

/-- A CTRL word decodes to host operations only (30_encoding R116). -/
theorem encode_of_decodeCtrl {w : Word} {i : Instr} (h : decodeCtrl w = .ok i) : ∃ v, encode i = .ctrl v := by
  unfold decodeCtrl at h
  split at h <;> cases h <;> exact ⟨_, rfl⟩

/-! ### The frames on a trace -/

/-- The frame events of a trace, without their times. -/
def framesIn (trace : List (Nat × Event)) : List Event := frameEvents (trace.map Prod.snd)

@[simp] theorem framesIn_append (tr more : List (Nat × Event)) :
    framesIn (tr ++ more) = framesIn tr ++ framesIn more := by
  simp [framesIn, frameEvents]

@[simp] theorem framesIn_nil : framesIn [] = [] := rfl
@[simp] theorem framesIn_cons_line (n : Nat) (l : Line) (v : Bool) (tr : List (Nat × Event)) :
    framesIn ((n, .line l v) :: tr) = framesIn tr := rfl
@[simp] theorem framesIn_cons_state (n : Nat) (st : PdcState) (tr : List (Nat × Event)) :
    framesIn ((n, .state st) :: tr) = framesIn tr := rfl
@[simp] theorem framesIn_cons_done (n : Nat) (c : StatusCode) (tr : List (Nat × Event)) :
    framesIn ((n, .done c) :: tr) = framesIn tr := rfl
@[simp] theorem framesIn_cons_host (n : Nat) (op : BitVec 3) (arg : Byte) (tr : List (Nat × Event)) :
    framesIn ((n, .host op arg) :: tr) = framesIn tr := rfl

/-- The frames of events that carry one time stamp (43_bringup_fsm R250). -/
theorem framesIn_stamped (now : Nat) (es : List Event) : framesIn (stamped now es) = frameEvents es := by
  simp [framesIn, stamped]

/-- The events a step adds hold no frame where the frames on the trace stay the same. -/
theorem frame_not_mem_of_framesIn_eq {s t : State} {es : List Event} {b rx : Byte} {res : XferResult}
    (hadds : Adds es s t) (heq : framesIn t.trace = framesIn s.trace) : Event.frame b res rx ∉ es := by
  have hnone : frameEvents es = [] := by
    rwa [hadds, framesIn_append, framesIn_stamped, List.append_right_eq_self] at heq
  intro hmem
  have hframe : Event.frame b res rx ∈ frameEvents es := List.mem_filter.mpr ⟨hmem, rfl⟩
  simp [hnone] at hframe

/-! ### The operations that record no frame -/

@[simp] theorem framesIn_raiseFault (c : StatusCode) (s : State) : framesIn (raiseFault c s).trace = framesIn s.trace := by
  cases hcs : s.lines.csSel with
  | true => simp [raiseFault_of_selected hcs]
  | false => simp [raiseFault_of_deselected hcs]

@[simp] theorem framesIn_driveInactive (s : State) : framesIn (driveInactive s).trace = framesIn s.trace := by
  simp [driveInactive]

@[simp] theorem startFrames_trace (frames : List Byte) (kind : OpKind) (s : State) :
    (startFrames frames kind s).trace = s.trace := by
  simp [startFrames]

@[simp] theorem startHostFrames_trace (frames : List Byte) (s : State) : (startHostFrames frames s).trace = s.trace := by
  simp [startHostFrames]

@[simp] theorem delayTick_trace (s : State) : (delayTick s).trace = s.trace := by
  unfold delayTick
  split_ifs <;> rfl

@[simp] theorem rstMove_trace (level : Bool) (s : State) : (rstMove level s).trace = s.trace := by
  cases level <;> rfl

theorem framesIn_stepXResult (s : State) : framesIn (stepXResult s).trace = framesIn s.trace := by
  unfold stepXResult
  cases s.seq.lastRes with
  | busy =>
    dsimp only
    split_ifs <;> simp
  | _ => simp

theorem framesIn_stepXNext (s : State) : framesIn (stepXNext s).trace = framesIn s.trace := by
  unfold stepXNext
  dsimp only
  split_ifs
  · simp
  · split <;> simp

theorem framesIn_stepCalSel (s : State) : framesIn (stepCalSel s).trace = framesIn s.trace := by
  unfold stepCalSel
  split_ifs <;> simp

/-- No labelled step but X_XFER's records a frame (43_bringup_fsm R253 to R266). -/
theorem framesIn_labelStep (s : State) : framesIn (labelStep s).trace = framesIn s.trace := by
  unfold labelStep
  cases s.seq.spc
  case xResult => exact framesIn_stepXResult s
  case xNext => exact framesIn_stepXNext s
  case bCalSel => exact framesIn_stepCalSel s
  all_goals
    simp [stepXSel, stepXUnsel, selectDevice, unselectDevice, stepRstAssert, stepRstWait, stepEn1, stepEn2, stepEnWait,
      stepLsHold, stepHsHold, stepCalHold, stepDone, stepHDone]

/-! ### The host's accesses record no frame -/

/-- A CTRL write records no frame where the operation's own part records none (44_host_operations R300, R301). -/
theorem framesIn_acceptCtrl {body : State → State} (hbody : ∀ u, framesIn (body u).trace = framesIn u.trace)
    (op : BitVec 3) (arg : Byte) (s : State) : framesIn (acceptCtrl op arg body s).trace = framesIn s.trace := by
  cases hb : s.stat.busy with
  | true => simp [acceptCtrl_busy hb]
  | false => simp [acceptCtrl_idle hb, hbody]

/-- An active-state operation records no frame where its body records none (44_host_operations R305 to R307). -/
theorem framesIn_onlyActive {body : State → State} (hbody : ∀ u, framesIn (body u).trace = framesIn u.trace)
    (s : State) : framesIn (onlyActive body s).trace = framesIn s.trace := by
  by_cases h : s.stat.state = .active
  · rw [onlyActive_active h, hbody]
  · simp [onlyActive_other h]

theorem framesIn_initBody (s : State) : framesIn (initBody s).trace = framesIn s.trace := by
  unfold initBody
  dsimp only
  split_ifs <;> simp

theorem framesIn_shutdownBody (s : State) : framesIn (shutdownBody s).trace = framesIn s.trace := by
  simp [shutdownBody]

theorem framesIn_sendBody (b : Byte) (s : State) : framesIn (sendBody b s).trace = framesIn s.trace := by
  refine framesIn_onlyActive (fun u => ?_) s
  split_ifs <;> simp

theorem framesIn_readStatusBody (n : BitVec 2) (hi : BitVec 6) (s : State) :
    framesIn (readStatusBody n hi s).trace = framesIn s.trace := by
  refine framesIn_onlyActive (fun u => ?_) s
  split_ifs <;> simp

theorem framesIn_clearFaultsBody (c0 c1 : Nibble) (s : State) :
    framesIn (clearFaultsBody c0 c1 s).trace = framesIn s.trace :=
  framesIn_onlyActive (fun u => by simp) s

/-- The host-write part of an operation records no frame (44_host_operations R302 to R307). -/
theorem framesIn_of_exec_ctrl {i : Instr} {w : Word} (hctrl : encode i = .ctrl w) {s t : State}
    (h : exec i s = .next t) : framesIn t.trace = framesIn s.trace := by
  cases i <;> cases hctrl <;> cases h
  case nop => exact framesIn_acceptCtrl (fun _ => rfl) _ _ s
  case init => exact framesIn_acceptCtrl framesIn_initBody _ _ s
  case shutdown => exact framesIn_acceptCtrl framesIn_shutdownBody _ _ s
  case send => exact framesIn_acceptCtrl (framesIn_sendBody _) _ _ s
  case readStatus => exact framesIn_acceptCtrl (framesIn_readStatusBody _ _) _ _ s
  case clearFaults => exact framesIn_acceptCtrl (framesIn_clearFaultsBody _ _) _ _ s

theorem framesIn_of_ctrlWrite {w : Word} {s t : State} (h : ctrlWrite w s = .next t) :
    framesIn t.trace = framesIn s.trace := by
  obtain ⟨i, hdec, hexec⟩ | ⟨r, -, rfl⟩ := ctrlWrite_cases h
  · obtain ⟨v, hctrl⟩ := encode_of_decodeCtrl hdec
    exact framesIn_of_exec_ctrl hctrl hexec
  · exact framesIn_acceptCtrl (fun u => by simp) _ _ s

theorem framesIn_storeCfg0 (v : Word) (s : State) : framesIn (storeCfg0 v s).trace = framesIn s.trace := by
  unfold storeCfg0
  split_ifs <;> simp

theorem framesIn_configWrite {store : State → State} (hstore : ∀ u, framesIn (store u).trace = framesIn u.trace)
    (s : State) : framesIn (configWrite store s).trace = framesIn s.trace := by
  unfold configWrite
  split_ifs
  · simp
  · exact hstore s
  · rfl

theorem framesIn_writeReg (off : Nat) (v : Word) (s : State) :
    framesIn (writeReg off v s).trace = framesIn s.trace := by
  unfold writeReg
  split
  · rfl
  · exact framesIn_configWrite (framesIn_storeCfg0 v) s
  · exact framesIn_configWrite (store := fun t => { t with cfg1 := v }) (fun _ => rfl) s
  · rfl

/-- No access of the host records a frame (20_memory R80 to R89). -/
theorem framesIn_of_hostMove {a : HostAccess} {s t : State} (h : hostMove a s = .next t) :
    framesIn t.trace = framesIn s.trace := by
  unfold hostMove at h
  cases htarget : busTarget s.params.baseAddr a <;> rw [htarget] at h
  case write off v =>
    dsimp only at h
    split_ifs at h
    · split at h
      · exact (framesIn_of_ctrlWrite h).trans rfl
      · cases h; exact framesIn_writeReg _ _ _
    · cases h; rfl
  all_goals cases h; rfl

theorem framesIn_of_hostTurn {a : HostAccess} {s t : State} (h : hostTurn a s = .next t) :
    framesIn t.trace = framesIn s.trace := by
  cases hend : s.env.hostEnded with
  | true => rw [hostTurn_ended a hend] at h; cases h; rfl
  | false => rw [hostTurn_open a hend] at h; exact framesIn_of_hostMove h

/-! ### The only step that records a frame -/

/-- An enabled sequencer step is scheduled at its label (43_bringup_fsm R250). -/
theorem scheduled_of_seqEnabled {s : State} (hmove : nextMove s = .seq) (hen : seqEnabled (takeMove s) = true) :
    Scheduled s.seq.spc s := by
  simp only [seqEnabled, Bool.and_eq_true, takeMove_env_rstN, takeMove_stat] at hen
  obtain ⟨⟨hrst, hbusy⟩, -⟩ := hen
  exact ⟨hmove, hrst, hbusy, rfl⟩

/-- X_XFER records its frame, with the transport's answer, and touches no line (41_transport_and_lines R174). -/
theorem sendFrame_trace (b : Byte) (s : State) :
    (sendFrame b s).trace = s.trace ++ [(s.env.now, .frame b (nextAnswer b s).res (nextAnswer b s).rx)] := by
  rw [sendFrame_eq, transferWith_eq]
  simp

theorem sendFrame_lines (b : Byte) (s : State) : (sendFrame b s).lines = s.lines := by
  rw [sendFrame_eq, transferWith_eq]
  simp

/-- A step records no frame, or it is the sequencer's at X_XFER and sends a frame that decodes (20_memory R84). -/
theorem framesIn_step_cases {s t : State} (h : step s = .next t) :
    framesIn t.trace = framesIn s.trace ∨
    (Scheduled .xXfer s ∧ ∃ b i, decodeFrame b = .ok i ∧ t = sendFrame b (takeMove s)) := by
  cases hmove : nextMove s <;> rw [step_of_move hmove] at h
  case host a => exact .inl (by simpa using framesIn_of_hostTurn h)
  case seq =>
    obtain ⟨-, rfl⟩ | ⟨-, -, rfl⟩ | ⟨hen, hspc, b, i, -, hdec, hexec⟩ := seqMove_cases h
    · exact .inl (by simp)
    · exact .inl (by simp [framesIn_labelStep])
    · rw [exec_frame (encode_of_decodeFrame hdec)] at hexec
      cases hexec
      rw [takeMove_seq] at hspc
      exact .inr ⟨hspc ▸ scheduled_of_seqEnabled hmove hen, b, i, hdec, rfl⟩
  all_goals
    cases h
    exact .inl (by simp)

/-- Where a step sends a frame, that frame is all it records. -/
theorem events_of_sendFrame {b : Byte} {s : State} {es : List Event} (h : Adds es s (sendFrame b (takeMove s))) :
    es = [.frame b (nextAnswer b (takeMove s)).res (nextAnswer b (takeMove s)).rx] := by
  unfold Adds at h
  rw [sendFrame_trace, takeMove_trace, takeMove_env_now, List.append_cancel_left_eq] at h
  simpa [stamped] using (congrArg (List.map Prod.snd) h).symm

/-- Settles O56: the step that records the frame is X_XFER's, where CS is selected by the invariant, and the byte it
sends decodes. -/
theorem framesAreLegalAndBracketed : Obligations.FramesAreLegalAndBracketed := by
  intro s t es b res rx hinv hstep hadds hmem
  obtain heq | ⟨hsched, b', i, hdec, rfl⟩ := framesIn_step_cases hstep
  · exact absurd hmem (frame_not_mem_of_framesIn_eq hadds heq)
  · have hes := events_of_sendFrame hadds
    rw [hes, List.mem_singleton] at hmem
    have hb : b = b' := (Event.frame.inj hmem).1
    have hcs : s.lines.csSel = true := by
      obtain ⟨-, -, ⟨hcs, -⟩, -⟩ := hinv
      obtain ⟨-, -, -, hspc⟩ := hsched
      rw [hcs, hspc]
      rfl
    refine ⟨hsched, hes.trans (by rw [hmem]), hb ▸ reservedByte_of_decodeFrame hdec, hcs, ?_⟩
    rw [sendFrame_lines, takeMove_lines, hcs]

end Sys2Proof.Proofs
end

section
/-! SUPPORT. The reserved frames (30_encoding R117): what the decoder refuses, what the encoder makes, and how SEND
answers one. -/

namespace Sys2Proof.Proofs

open Sys2Proof.Machine Sys2Proof.Safety Sys2Proof.Claims

/-! ### The bytes the frame decoder refuses -/

/-- `OPC` as a number (30_encoding R110). -/
theorem frameOpc_toNat (b : Byte) : (frameOpc b).toNat = b.toNat / 16 := by
  simp only [frameOpc, BitVec.extractLsb'_toNat, Nat.shiftRight_eq_div_pow]
  omega

/-- `PL` as a number (30_encoding R110). -/
theorem framePayload_toNat (b : Byte) : (framePayload b).toNat = b.toNat % 16 := by
  simp only [framePayload, BitVec.extractLsb'_toNat, Nat.shiftRight_zero]

/-- The list of R117 in terms of class and payload. -/
theorem reservedByte_iff (b : Byte) :
    reservedByte b = true ↔
      ((frameOpc b).toNat = 1 ∨ (frameOpc b).toNat = 5 ∨ 9 ≤ (frameOpc b).toNat) ∨
      ((frameOpc b).toNat = 0 ∧ 4 ≤ (framePayload b).toNat) ∨
      ((frameOpc b).toNat = 4 ∧ (framePayload b).toNat / 4 % 2 = 1) ∨
      ((frameOpc b).toNat = 8 ∧ 2 ≤ (framePayload b).toNat) := by
  simp only [reservedByte, frameOpc_toNat, framePayload_toNat, Bool.or_eq_true, Bool.and_eq_true, beq_iff_eq,
    decide_eq_true_eq, or_assoc]

/-- A NULL frame is refused for a payload above 3 only (42_command_codec R201). -/
theorem four_le_of_decodeNull_error {b : Byte} {r : Reject} (h : decodeNull b = .error r) :
    4 ≤ (framePayload b).toNat := by
  unfold decodeNull at h
  split at h
  case h_5 => grind
  all_goals cases h

/-- `PL[2]` as a digit of the payload. -/
theorem payload_bit2_of_ne : ∀ p : Nibble, p &&& 0x4#4 ≠ 0#4 → p.toNat / 4 % 2 = 1 := by decide

/-- `PL[3:1]` as a bound on the payload. -/
theorem two_le_payload_of_ne : ∀ p : Nibble, p &&& 0xE#4 ≠ 0#4 → 2 ≤ p.toNat := by decide

/-- The decoder refuses no byte outside the list of R117. -/
theorem reservedByte_of_decodeFrame_error {b : Byte} {r : Reject} (h : decodeFrame b = .error r) :
    reservedByte b = true := by
  rw [reservedByte_iff]
  unfold decodeFrame at h
  split at h
  case h_1 hnull => exact .inr (.inl ⟨hnull, four_le_of_decodeNull_error h⟩)
  case h_4 hmode =>
    split_ifs at h with hpl
    exact .inr (.inr (.inl ⟨hmode, payload_bit2_of_ne _ hpl⟩))
  case h_7 hdeadtime =>
    split_ifs at h with hpl
    exact .inr (.inr (.inr ⟨hdeadtime, two_le_payload_of_ne _ hpl⟩))
  case h_8 => exact .inl (by grind)
  all_goals cases h

/-- The decoder refuses exactly the reserved frames (30_encoding R117). -/
theorem reservedByte_iff_decodeFrame_error (b : Byte) : reservedByte b = true ↔ ∃ r, decodeFrame b = .error r := by
  constructor
  · intro hres
    cases hdec : decodeFrame b with
    | error r => exact ⟨r, rfl⟩
    | ok i => simp [reservedByte_of_decodeFrame hdec] at hres
  · rintro ⟨r, hdec⟩
    exact reservedByte_of_decodeFrame_error hdec

/-! ### The frames the encoder makes -/

/-- The frame of a well-formed instruction decodes to that instruction (42_command_codec R202). -/
theorem decodeFrame_of_encode {i : Instr} {b : Byte} (hwf : i.wf = true) (henc : encode i = .frame b) :
    decodeFrame b = .ok i := by
  cases i <;> cases henc
  case mask0 p | mask1 p | clint0 p | clint1 p => clear hwf; revert p; decide
  case mode p | deadtime p => revert p; decide
  all_goals rfl

/-! ### SEND of a frame it does not accept -/

/-- SEND accepts no reserved frame (44_host_operations R305). -/
theorem sendAccepts_of_reservedByte {b : Byte} (h : reservedByte b = true) : sendAccepts b = false := by
  obtain ⟨r, hdec⟩ := (reservedByte_iff_decodeFrame_error b).mp h
  simp [sendAccepts, hdec]

/-- SEND is a CTRL write of `OP` 3 with the frame as its argument (44_host_operations R305). -/
theorem exec_send (b : Byte) (s : State) : exec (.send b) s = .next (acceptCtrl 3#3 b (sendBody b) s) := rfl

/-- A frame SEND does not accept ends it, idle in `Active`, with `InvalidArgument` (44_host_operations R305). -/
theorem exec_send_of_not_accepted {b : Byte} {s : State} (hrej : sendAccepts b = false) (hidle : s.stat.busy = false)
    (hactive : s.stat.state = .active) :
    exec (.send b) s = .next (finish .invalidArgument (record (.host 3#3 b) s)) := by
  rw [exec_send, acceptCtrl_idle hidle, sendBody, onlyActive_active (by simpa using hactive)]
  simp [hrej]

/-- An operation that ends at its own write leaves its result and its two events, and the sequencer idle
(44_host_operations R300, 43_bringup_fsm R251). -/
theorem finish_record_host (code : StatusCode) (op : BitVec 3) (arg : Byte) (s : State) :
    finish code (record (.host op arg) s) =
      { s with
        result := code
        stat.busy := false
        seq.spc := .idle
        trace := s.trace ++ stamped s.env.now [.host op arg, .done code] } := by
  simp [finish, record, stamped]

/-- Settles O3: the decoder refuses exactly the list; what the encoder makes decodes, so it is not on the list; SEND
does not accept what the decoder refuses. -/
theorem reservedFramesRefused : Obligations.ReservedFramesRefused := by
  refine ⟨reservedByte_iff_decodeFrame_error, fun i b hwf henc => ?_, fun b s hres hidle hactive => ?_⟩
  · exact reservedByte_of_decodeFrame (decodeFrame_of_encode hwf henc)
  · rw [exec_send_of_not_accepted (sendAccepts_of_reservedByte hres) hidle hactive, finish_record_host]

end Sys2Proof.Proofs
end

section
/-! SUPPORT. The wait service (40_wait_service): the number of block-clock cycles a wait takes, the labels that begin
with a wait, and the wait from the step that reaches its label to the step that ends it. -/

namespace Sys2Proof.Proofs

open Sys2Proof.Machine Sys2Proof.Safety Sys2Proof.Claims

/-! ### The cycle count -/

/-- `WaitCycles(f, d)` with its two roundings up written out (40_wait_service R151). -/
theorem waitCycles_eq (f d : Nat) :
    waitCycles f d = max (4 * (((f * d + 999999999) / 1000000000 + 3) / 4)) 4 := rfl

theorem waitCycles_mod_four (f d : Nat) : waitCycles f d % 4 = 0 := by
  rw [waitCycles_eq]
  omega

theorem four_le_waitCycles (f d : Nat) : 4 ≤ waitCycles f d := le_max_right _ _

/-- Among the positive multiples of 4, those that cover the wait are exactly those from `WaitCycles(f, d)` on: it
covers the wait itself, and is the least that does (40_wait_service R151). -/
theorem waitCycles_le_iff {f d n : Nat} (hmod : n % 4 = 0) (hpos : 0 < n) :
    waitCycles f d ≤ n ↔ f * d ≤ n * 1000000000 := by
  rw [waitCycles_eq]
  generalize f * d = cycles
  omega

/-- A wait with nothing to count takes one step of the counter (40_wait_service R151). -/
theorem waitCycles_of_mul_eq_zero {f d : Nat} (h : f * d = 0) : waitCycles f d = 4 := by
  simp [waitCycles_eq, h]

/-- Settles O26: `waitCycles_le_iff` at `WaitCycles(f, d)` itself says that it is enough, and at any other count that
none smaller is. -/
theorem waitCyclesIsTheLeast : Obligations.WaitCyclesIsTheLeast := by
  intro f d
  have hmod := waitCycles_mod_four f d
  have hfour := four_le_waitCycles f d
  have henough : f * d ≤ waitCycles f d * 1000000000 := (waitCycles_le_iff hmod (by omega)).mp le_rfl
  exact ⟨waitCycles_eq f d, hmod, hfour, henough, fun n hn hpos => (waitCycles_le_iff hn hpos).mpr,
    fun h => waitCycles_of_mul_eq_zero (Nat.mul_eq_zero.mpr h)⟩

/-! ### The labels with a wait -/

/-- The labels that begin with a wait (40_wait_service R157). -/
theorem label_of_waitOf_ne_none {p : Params} {c : Word} {l : Label} (h : waitOf p c l ≠ none) :
    l = .bRstWait ∨ l = .bEn1 ∨ l = .bEn2 ∨ l = .bEnWait ∨ l = .bLsHold ∨ l = .bHsHold ∨ l = .xBackoff ∨
      l = .bCalHold := by
  cases l
  case bRstWait | bEn1 | bEn2 | bEnWait | bLsHold | bHsHold | xBackoff | bCalHold => decide
  all_goals exact absurd rfl h

/-- Settles O25: the durations are those of `waitOf`; of the defaults, the two that depend on the dead time are
evaluated at 500 ns. -/
theorem waitsOfTheSequencer : Obligations.WaitsOfTheSequencer := by
  refine ⟨fun p c => ⟨rfl, rfl, rfl, rfl, rfl, rfl, rfl, rfl, fun l => label_of_waitOf_ne_none⟩, fun c hdt => ?_⟩
  have hhold : waitOf Params.default c .bHsHold = some 16000 := by rw [waitOf, hdt]; rfl
  have hcal : waitOf Params.default c .bCalHold = some 8000 := by rw [waitOf, hdt]; rfl
  exact ⟨rfl, rfl, rfl, rfl, rfl, hhold, rfl, hcal⟩

/-! ### The sequencer's move at a label with a wait -/

/-- At a label with a wait the sequencer's step is enabled once the wait is over (40_wait_service R150). -/
theorem seqEnabled_of_wait {l : Label} {s : State} {d : Nat} (hsched : Scheduled l s)
    (hwait : waitOf s.params s.cfg0 l = some d) :
    seqEnabled (takeMove s) = decide (s.seq.waitStart + s.seq.waitD ≤ s.env.now) := by
  obtain ⟨-, hrst, hbusy, hspc⟩ := hsched
  simp [seqEnabled, waitElapsed, hrst, hbusy, hspc, hwait]

/-- Before its wait is over the sequencer holds (40_wait_service R150). -/
theorem step_of_wait_early {l : Label} {s : State} {d : Nat} (hsched : Scheduled l s)
    (hwait : waitOf s.params s.cfg0 l = some d) (hearly : s.env.now < s.seq.waitStart + s.seq.waitD) :
    step s = .next (takeMove s) := by
  have hdis : seqEnabled (takeMove s) = false := by
    rw [seqEnabled_of_wait hsched hwait, decide_eq_false (Nat.not_le.mpr hearly)]
  rw [step_of_move hsched.1]
  exact seqMove_disabled hdis

/-- From the end of its wait on, however late, the sequencer takes the label's step (40_wait_service R150). -/
theorem step_of_wait_over {l : Label} {s : State} {d : Nat} (hsched : Scheduled l s)
    (hwait : waitOf s.params s.cfg0 l = some d) (hover : s.seq.waitStart + s.seq.waitD ≤ s.env.now) :
    step s = .next (labelStep (takeMove s)) := by
  have hen : seqEnabled (takeMove s) = true := by
    rw [seqEnabled_of_wait hsched hwait, decide_eq_true hover]
  obtain ⟨hmove, -, -, hspc⟩ := hsched
  have hne : (takeMove s).seq.spc ≠ .xXfer := by
    rw [takeMove_seq, hspc]
    rintro rfl
    cases hwait
  rw [step_of_move hmove]
  exact seqMove_label hen hne

/-! ### How SPC moves -/

/-- From `s` to `t` SPC stays, or goes to IDLE, or is set by `goto` at the time and the `sysclk_hz` of `s`. -/
def SpcMoves (s t : State) : Prop :=
  t.seq.spc = s.seq.spc ∨ t.seq.spc = .idle ∨
    ∃ l u, t = goto l u ∧ u.env.now = s.env.now ∧ u.env.sysclkHz = s.env.sysclkHz

/-- Nothing about SPC, the time or the clock is lost by taking the move first. -/
theorem spcMoves_of_takeMove {s t : State} (h : SpcMoves (takeMove s) t) : SpcMoves s t := by
  simpa only [SpcMoves, takeMove_seq, takeMove_env_now, takeMove_env_sysclkHz] using h

theorem spcMoves_of_seq_eq {s t : State} (h : t.seq = s.seq) : SpcMoves s t := .inl (by rw [h])

theorem spcMoves_finish (c : StatusCode) (s u : State) : SpcMoves s (finish c u) := .inr (.inl rfl)

/-- A label set with the environment unchanged. -/
theorem spcMoves_goto {s u : State} (l : Label) (h : u.env = s.env) : SpcMoves s (goto l u) :=
  .inr (.inr ⟨l, u, rfl, by rw [h], by rw [h]⟩)

/-- A wait label that SPC moves to has its wait started, with the counter loaded (40_wait_service R150, R153). -/
theorem wait_begins_of_spcMoves {s t : State} {d : Nat} (h : SpcMoves s t) (hne : t.seq.spc ≠ s.seq.spc)
    (hwait : waitOf t.params t.cfg0 t.seq.spc = some d) :
    WaitBegins d s t ∧ t.seq.waitCount = counterLoad t.params.waitStepCycles s.env.sysclkHz.toNat d := by
  obtain hstay | hidle | ⟨l, u, rfl, hnow, hhz⟩ := h
  · exact absurd hstay hne
  · rw [hidle] at hwait
    cases hwait
  · rw [goto_params, goto_cfg0, goto_seq_spc] at hwait
    rw [goto_params, WaitBegins, goto_of_wait hwait, ← hnow, ← hhz]
    exact ⟨⟨rfl, rfl⟩, rfl⟩

/-! ### The sequencer's steps -/

theorem spcMoves_stepXResult (s : State) : SpcMoves s (stepXResult s) := by
  unfold stepXResult
  cases s.seq.lastRes with
  | success => exact spcMoves_goto _ rfl
  | busy =>
    dsimp only
    split_ifs
    · exact spcMoves_goto _ rfl
    · exact spcMoves_finish _ _ _
  | error | invalidArgument | timeout => exact spcMoves_finish _ _ _

theorem spcMoves_stepXNext (s : State) : SpcMoves s (stepXNext s) := by
  unfold stepXNext
  dsimp only
  split_ifs
  · exact spcMoves_goto _ rfl
  · split <;> exact spcMoves_goto _ rfl

theorem spcMoves_stepCalSel (s : State) : SpcMoves s (stepCalSel s) := by
  unfold stepCalSel
  split_ifs <;> exact spcMoves_goto _ rfl

/-- Every labelled step ends in a `goto`, or ends its operation (43_bringup_fsm R253 to R266). -/
theorem spcMoves_labelStep (s : State) : SpcMoves s (labelStep s) := by
  unfold labelStep
  cases s.seq.spc
  case idle | xXfer => exact spcMoves_of_seq_eq rfl
  case xResult => exact spcMoves_stepXResult s
  case xNext => exact spcMoves_stepXNext s
  case bCalSel => exact spcMoves_stepCalSel s
  case bDone | hDone => exact spcMoves_finish _ _ _
  case bRstAssert => exact spcMoves_goto _ (by simp [driveInactive_eq])
  all_goals exact spcMoves_goto _ rfl

/-- X_XFER goes to X_UNSEL; the transport's answer changes neither the time nor the clock (43_bringup_fsm R253). -/
theorem spcMoves_sendFrame (b : Byte) (s : State) : SpcMoves s (sendFrame b s) := by
  unfold sendFrame
  refine .inr (.inr ⟨_, _, rfl, ?_, ?_⟩) <;> rw [transferWith_eq] <;> simp

/-- Whatever the sequencer's move does, it moves SPC by `goto` or to IDLE (43_bringup_fsm R250). -/
theorem spcMoves_of_seqMove {s t : State} (h : seqMove s = .next t) : SpcMoves s t := by
  obtain ⟨-, rfl⟩ | ⟨-, -, rfl⟩ | ⟨-, -, b, i, -, hdec, hexec⟩ := seqMove_cases h
  · exact spcMoves_of_seq_eq rfl
  · exact spcMoves_labelStep s
  · rw [exec_frame (encode_of_decodeFrame hdec)] at hexec
    cases hexec
    exact spcMoves_sendFrame b s

/-! ### The host's accesses -/

/-- A CTRL write moves SPC as the operation's own part does (44_host_operations R300, R301). -/
theorem spcMoves_acceptCtrl {body : State → State} (hbody : ∀ u, SpcMoves u (body u)) (op : BitVec 3) (arg : Byte)
    (s : State) : SpcMoves s (acceptCtrl op arg body s) := by
  cases hb : s.stat.busy with
  | true => rw [acceptCtrl_busy hb]; exact spcMoves_of_seq_eq rfl
  | false => rw [acceptCtrl_idle hb]; exact hbody (record _ s)

/-- An active-state operation moves SPC as its body does (44_host_operations R305 to R307). -/
theorem spcMoves_onlyActive {body : State → State} (hbody : ∀ u, SpcMoves u (body u)) (s : State) :
    SpcMoves s (onlyActive body s) := by
  by_cases h : s.stat.state = .active
  · rw [onlyActive_active h]; exact hbody s
  · rw [onlyActive_other h]; exact spcMoves_finish _ _ _

theorem spcMoves_startHostFrames (frames : List Byte) (s : State) : SpcMoves s (startHostFrames frames s) :=
  spcMoves_goto _ rfl

theorem spcMoves_initBody (s : State) : SpcMoves s (initBody s) := by
  unfold initBody
  dsimp only
  split_ifs
  · exact spcMoves_finish _ _ _
  · exact spcMoves_finish _ _ _
  · exact spcMoves_goto _ rfl

/-- A body that checks its operand before it starts its frames (44_host_operations R305, R306). -/
theorem spcMoves_checkedFrames {p : Prop} [Decidable p] (frames : List Byte) (s : State) :
    SpcMoves s (if p then startHostFrames frames s else finish .invalidArgument s) := by
  split_ifs
  · exact spcMoves_startHostFrames frames s
  · exact spcMoves_finish _ _ _

/-- The host-write part of an operation (44_host_operations R302 to R307). -/
theorem spcMoves_of_exec_ctrl {i : Instr} {w : Word} (hctrl : encode i = .ctrl w) {s t : State}
    (h : exec i s = .next t) : SpcMoves s t := by
  cases i <;> cases hctrl <;> cases h
  case nop => exact spcMoves_acceptCtrl (fun _ => spcMoves_of_seq_eq rfl) _ _ s
  case init => exact spcMoves_acceptCtrl spcMoves_initBody _ _ s
  case shutdown => exact spcMoves_acceptCtrl (fun u => spcMoves_finish _ u _) _ _ s
  case send => exact spcMoves_acceptCtrl (spcMoves_onlyActive (spcMoves_checkedFrames _)) _ _ s
  case readStatus => exact spcMoves_acceptCtrl (spcMoves_onlyActive (spcMoves_checkedFrames _)) _ _ s
  case clearFaults => exact spcMoves_acceptCtrl (spcMoves_onlyActive (spcMoves_startHostFrames _)) _ _ s

theorem spcMoves_of_ctrlWrite {w : Word} {s t : State} (h : ctrlWrite w s = .next t) : SpcMoves s t := by
  obtain ⟨i, hdec, hexec⟩ | ⟨r, -, rfl⟩ := ctrlWrite_cases h
  · obtain ⟨v, hctrl⟩ := encode_of_decodeCtrl hdec
    exact spcMoves_of_exec_ctrl hctrl hexec
  · exact spcMoves_acceptCtrl (fun u => spcMoves_finish _ u u) _ _ s

@[simp] theorem storeCfg0_seq (v : Word) (s : State) : (storeCfg0 v s).seq = s.seq := by
  unfold storeCfg0
  split_ifs <;> rfl

/-- A configuration write leaves the sequencer alone where its store does (44_host_operations R310). -/
theorem configWrite_seq {store : State → State} (hstore : ∀ u, (store u).seq = u.seq) (s : State) :
    (configWrite store s).seq = s.seq := by
  unfold configWrite
  split_ifs
  · rfl
  · exact hstore s
  · rfl

/-- A write to a register other than CTRL leaves the sequencer alone (20_memory R89). -/
@[simp] theorem writeReg_seq (off : Nat) (v : Word) (s : State) : (writeReg off v s).seq = s.seq := by
  unfold writeReg
  split
  · rfl
  · exact configWrite_seq (storeCfg0_seq v) s
  · exact configWrite_seq (store := fun t => { t with cfg1 := v }) (fun _ => rfl) s
  · rfl

/-- An access of the host moves SPC only where it is a CTRL write (20_memory R80 to R89). -/
theorem spcMoves_of_hostMove {a : HostAccess} {s t : State} (h : hostMove a s = .next t) : SpcMoves s t := by
  unfold hostMove at h
  cases htarget : busTarget s.params.baseAddr a <;> rw [htarget] at h
  case write off v =>
    dsimp only at h
    split_ifs at h
    · split at h
      · exact (spcMoves_of_ctrlWrite h :)
      · cases h; exact spcMoves_of_seq_eq (writeReg_seq _ _ _)
    · cases h; exact spcMoves_of_seq_eq rfl
  all_goals cases h; exact spcMoves_of_seq_eq rfl

theorem spcMoves_of_hostTurn {a : HostAccess} {s t : State} (h : hostTurn a s = .next t) : SpcMoves s t := by
  cases hend : s.env.hostEnded with
  | true => rw [hostTurn_ended a hend] at h; cases h; exact spcMoves_of_seq_eq rfl
  | false => rw [hostTurn_open a hend] at h; exact spcMoves_of_hostMove h

/-! ### Every step -/

/-- The delay unit's counter does not steer the sequencer (40_wait_service R150, R153). -/
@[simp] theorem delayTick_spc (s : State) : (delayTick s).seq.spc = s.seq.spc := by
  unfold delayTick
  split_ifs <;> rfl

/-- Block reset puts SPC at IDLE; the release of it leaves SPC (70_reset_and_hazards R380). -/
theorem spcMoves_rstMove (level : Bool) (s : State) : SpcMoves s (rstMove level s) := by
  cases level with
  | true => exact spcMoves_of_seq_eq rfl
  | false => exact .inr (.inl rfl)

/-- No step moves SPC but by `goto` at the time of the step, or to IDLE. -/
theorem spcMoves_of_step {s t : State} (h : step s = .next t) : SpcMoves s t := by
  cases hmove : nextMove s <;> rw [step_of_move hmove] at h <;> refine spcMoves_of_takeMove ?_
  case seq => exact spcMoves_of_seqMove h
  case host a => exact spcMoves_of_hostTurn h
  case rst level => cases h; exact spcMoves_rstMove level _
  case clock => cases h; exact .inl (delayTick_spc _)
  all_goals cases h; exact spcMoves_of_seq_eq rfl

/-- Settles O24: a step reaches a wait label by `goto`, which starts the wait; the label's step is enabled by the end of
the wait alone. -/
theorem awaitElapsed : Obligations.AwaitElapsed := by
  refine ⟨fun s t d hstep hne hwait hcycles => ?_, fun s l d => step_of_wait_early, fun s l d => step_of_wait_over⟩
  have hbegins := wait_begins_of_spcMoves (spcMoves_of_step hstep) hne hwait
  rwa [hcycles] at hbegins

end Sys2Proof.Proofs
end

section
/-! SUPPORT. The transport (41_transport_and_lines R174, R175): what a transfer leaves in each register, and that no
other step writes LASTXFER or a status register. -/

namespace Sys2Proof.Proofs

open Sys2Proof.Machine Sys2Proof.Safety Sys2Proof.Claims

/-! ### The registers the pipeline writes -/

/-- The marker that names register `k` is the one whose byte goes there (10_state R26, 42_command_codec R214). -/
theorem reqIndex_eq_some_iff {r : Req} {k : Fin 4} : reqIndex r = some k ↔ r = reqNumber k := by
  cases r <;> revert k <;> decide

/-- Where the pipeline is `None` or `Unknown`, the next byte belongs to no register (42_command_codec R214). -/
theorem ne_reqNumber_of_reqIndex_none {r : Req} (h : reqIndex r = none) (k : Fin 4) : r ≠ reqNumber k := fun hk => by
  simp [reqIndex_eq_some_iff.mpr hk] at h

theorem reqNumber_inj {j k : Fin 4} : reqNumber j = reqNumber k ↔ j = k := by
  revert j k
  decide

theorem statusGet_statusSet (j k : Fin 4) (b : Byte) (f : StatusFile) :
    statusGet k (statusSet j b f) = if j = k then b else statusGet k f := by
  fin_cases j <;> fin_cases k <;> rfl

theorem snapValidSet_getLsbD (j k : Fin 4) (v : BitVec 4) :
    (snapValidSet j v).getLsbD k.val = true ↔ v.getLsbD k.val = true ∨ j = k := by
  revert j k v
  decide

/-- RETRIES saturates at 15 (41_transport_and_lines R174). -/
theorem retriesNext_toNat (r : BitVec 4) : (retriesNext r).toNat = min 15 (r.toNat + 1) := by
  rw [retriesNext, BitVec.toNat_ofNat]
  omega

/-! ### A transfer, register by register -/

/-- The byte of a `Success` goes to the register PREV_REQ names and to no other; any other answer changes none
(42_command_codec R214). -/
theorem transferWith_statusGet (tx : Byte) (a : Answer) (s : State) (k : Fin 4) :
    statusGet k (transferWith tx a s).status =
      if a.res = .success ∧ s.stat.prevReq = reqNumber k then a.rx else statusGet k s.status := by
  obtain ⟨res, rx⟩ := a
  by_cases hres : res = .success
  · subst hres
    cases hreq : reqIndex s.stat.prevReq with
    | some j =>
      rw [(transferWith_success hreq).1, statusGet_statusSet, reqIndex_eq_some_iff.mp hreq]
      simp [reqNumber_inj]
    | none =>
      rw [(transferWith_discard hreq).1]
      simp [ne_reqNumber_of_reqIndex_none hreq k]
  · rw [(transferWith_failure hres).1]
    simp [hres]

/-- The register that a `Success` latches is marked in SNAPVALID, and no mark is lost (42_command_codec R214). -/
theorem transferWith_snapValid (tx : Byte) (a : Answer) (s : State) (k : Fin 4) :
    (transferWith tx a s).stat.snapValid.getLsbD k.val = true ↔
      s.stat.snapValid.getLsbD k.val = true ∨ (a.res = .success ∧ s.stat.prevReq = reqNumber k) := by
  obtain ⟨res, rx⟩ := a
  by_cases hres : res = .success
  · subst hres
    cases hreq : reqIndex s.stat.prevReq with
    | some j =>
      rw [(transferWith_success hreq).2.1, snapValidSet_getLsbD, reqIndex_eq_some_iff.mp hreq]
      simp [reqNumber_inj]
    | none =>
      rw [(transferWith_discard hreq).2.1]
      simp [ne_reqNumber_of_reqIndex_none hreq k]
  · rw [(transferWith_failure hres).2.1]
    simp [hres]

/-- The next byte answers this frame after a `Success` only (42_command_codec R215). -/
theorem transferWith_prevReq (tx : Byte) (a : Answer) (s : State) :
    (transferWith tx a s).stat.prevReq = if a.res = .success then reqOf tx else .unknown := by
  obtain ⟨res, rx⟩ := a
  by_cases hres : res = .success
  · subst hres
    cases hreq : reqIndex s.stat.prevReq with
    | some j => exact (transferWith_success hreq).2.2
    | none => exact (transferWith_discard hreq).2.2
  · rw [(transferWith_failure hres).2.2, if_neg hres]

/-- RETRIES counts the `Busy` answers (41_transport_and_lines R174). -/
theorem transferWith_retries (tx : Byte) (a : Answer) (s : State) :
    (transferWith tx a s).stat.retries.toNat =
      if a.res = .busy then min 15 (s.stat.retries.toNat + 1) else s.stat.retries.toNat := by
  rw [congrArg Stat.retries (transferWith_stat tx a s), ← retriesNext_toNat]
  exact apply_ite BitVec.toNat _ _ _

/-! ### The transfer step -/

theorem sendFrame_stat (b : Byte) (s : State) :
    (sendFrame b s).stat = (transferWith b (nextAnswer b s) (takeAnswer s)).stat := by
  rw [sendFrame_eq]

theorem sendFrame_status (b : Byte) (s : State) :
    (sendFrame b s).status = (transferWith b (nextAnswer b s) (takeAnswer s)).status := by
  rw [sendFrame_eq]

/-- LASTXFER describes the transfer just made (41_transport_and_lines R175). -/
theorem sendFrame_lastXfer (b : Byte) (s : State) : (sendFrame b s).lastXfer = lastXferOf b (nextAnswer b s) := by
  rw [sendFrame_eq, transferWith_eq]

theorem sendFrame_lastRes (b : Byte) (s : State) : (sendFrame b s).seq.lastRes = (nextAnswer b s).res := by
  rw [sendFrame_eq]

theorem sendFrame_spc (b : Byte) (s : State) : (sendFrame b s).seq.spc = .xUnsel := by
  rw [sendFrame_eq]

/-- The byte each frame is said to send is the one it encodes to (42_command_codec R203 to R212). -/
theorem encode_of_frameSpec {i : Instr} {b : Byte} {q : Req} (h : frameSpec i = some (b, q)) : encode i = .frame b := by
  cases i <;> cases h
  case mask0 p | mask1 p | mode p | clint0 p | clint1 p | deadtime p => revert p; decide
  all_goals rfl

/-- Each of the ten frames completes with the transfer step of its byte (42_command_codec R203 to R212). -/
theorem exec_of_frameSpec {i : Instr} {b : Byte} {q : Req} (h : frameSpec i = some (b, q)) (s : State) :
    exec i s = .next (sendFrame b s) :=
  exec_frame (encode_of_frameSpec h) s

/-- Settles O7: each frame is `sendFrame` of its byte, whose registers are those of the transfer. -/
theorem framesTransfer : Obligations.FramesTransfer := by
  intro i b q hspec s
  refine ⟨sendFrame b s, exec_of_frameSpec hspec s, sendFrame_trace b s, sendFrame_lastXfer b s, fun k => ⟨?_, ?_⟩,
    ?_, ?_, sendFrame_lastRes b s, sendFrame_spc b s⟩
  · rw [sendFrame_status, transferWith_statusGet, takeAnswer_stat, takeAnswer_status]
  · rw [sendFrame_stat, transferWith_snapValid, takeAnswer_stat]
  · rw [sendFrame_stat, transferWith_prevReq]
  · rw [sendFrame_stat, transferWith_retries, takeAnswer_stat]

/-! ### What is received is kept until the next transfer -/

/-- From `s` to `t` the registers that hold what the transport gave, LASTXFER and the status registers, stay the same
(41_transport_and_lines R175, 10_state R39). -/
def KeepsReceived (s t : State) : Prop := t.lastXfer = s.lastXfer ∧ t.status = s.status

theorem keepsReceived_goto (l : Label) (s : State) : KeepsReceived s (goto l s) := ⟨goto_lastXfer l s, goto_status l s⟩

theorem keepsReceived_finish (c : StatusCode) (s : State) : KeepsReceived s (finish c s) := ⟨rfl, rfl⟩

theorem keepsReceived_startHostFrames (frames : List Byte) (s : State) :
    KeepsReceived s (startHostFrames frames s) := ⟨rfl, rfl⟩

theorem keepsReceived_raiseFault (c : StatusCode) (s : State) : KeepsReceived s (raiseFault c s) := by
  cases hcs : s.lines.csSel with
  | true => rw [raiseFault_of_selected hcs]; exact ⟨rfl, rfl⟩
  | false => rw [raiseFault_of_deselected hcs]; exact ⟨rfl, rfl⟩

theorem keepsReceived_stepXResult (s : State) : KeepsReceived s (stepXResult s) := by
  unfold stepXResult
  cases s.seq.lastRes with
  | success => exact keepsReceived_goto _ s
  | busy =>
    dsimp only
    split_ifs
    · exact keepsReceived_goto _ s
    · exact keepsReceived_raiseFault _ s
  | error | invalidArgument | timeout => exact keepsReceived_raiseFault _ s

theorem keepsReceived_stepXNext (s : State) : KeepsReceived s (stepXNext s) := by
  unfold stepXNext
  dsimp only
  split_ifs
  · exact ⟨rfl, rfl⟩
  · split <;> exact ⟨rfl, rfl⟩

theorem keepsReceived_stepCalSel (s : State) : KeepsReceived s (stepCalSel s) := by
  unfold stepCalSel
  split_ifs <;> exact ⟨rfl, rfl⟩

theorem keepsReceived_stepRstAssert (s : State) : KeepsReceived s (stepRstAssert s) := by
  simp [KeepsReceived, stepRstAssert, driveInactive_eq]

/-- No labelled step but X_XFER's is a transfer (43_bringup_fsm R253 to R266). -/
theorem keepsReceived_labelStep (s : State) : KeepsReceived s (labelStep s) := by
  unfold labelStep
  cases s.seq.spc
  case xResult => exact keepsReceived_stepXResult s
  case xNext => exact keepsReceived_stepXNext s
  case bCalSel => exact keepsReceived_stepCalSel s
  case bRstAssert => exact keepsReceived_stepRstAssert s
  all_goals exact ⟨rfl, rfl⟩

/-- A CTRL write keeps what was received where the operation's own part does (44_host_operations R300, R301). -/
theorem keepsReceived_acceptCtrl {body : State → State} (hbody : ∀ u, KeepsReceived u (body u)) (op : BitVec 3)
    (arg : Byte) (s : State) : KeepsReceived s (acceptCtrl op arg body s) := by
  cases hb : s.stat.busy with
  | true => rw [acceptCtrl_busy hb]; exact ⟨rfl, rfl⟩
  | false => rw [acceptCtrl_idle hb]; exact hbody (record _ s)

theorem keepsReceived_onlyActive {body : State → State} (hbody : ∀ u, KeepsReceived u (body u)) (s : State) :
    KeepsReceived s (onlyActive body s) := by
  by_cases h : s.stat.state = .active
  · rw [onlyActive_active h]; exact hbody s
  · rw [onlyActive_other h]; exact ⟨rfl, rfl⟩

theorem keepsReceived_initBody (s : State) : KeepsReceived s (initBody s) := by
  unfold initBody
  dsimp only
  split_ifs
  · exact keepsReceived_raiseFault .outOfRange (setState .poweredOff s)
  · exact keepsReceived_raiseFault .invalidArgument (setState .poweredOff s)
  · exact ⟨rfl, rfl⟩

theorem keepsReceived_shutdownBody (s : State) : KeepsReceived s (shutdownBody s) := by
  simp [KeepsReceived, shutdownBody, driveInactive_eq]

/-- A body that checks its operand before it starts its frames (44_host_operations R305, R306). -/
theorem keepsReceived_checkedFrames {p : Prop} [Decidable p] (frames : List Byte) (s : State) :
    KeepsReceived s (if p then startHostFrames frames s else finish .invalidArgument s) := by
  split_ifs
  · exact keepsReceived_startHostFrames frames s
  · exact keepsReceived_finish _ s

/-- The write of an operation to CTRL makes no transfer itself (44_host_operations R302 to R307). -/
theorem keepsReceived_of_exec_ctrl {i : Instr} {w : Word} (hctrl : encode i = .ctrl w) {s t : State}
    (h : exec i s = .next t) : KeepsReceived s t := by
  cases i <;> cases hctrl <;> cases h
  case nop => exact keepsReceived_acceptCtrl (fun _ => ⟨rfl, rfl⟩) _ _ s
  case init => exact keepsReceived_acceptCtrl keepsReceived_initBody _ _ s
  case shutdown => exact keepsReceived_acceptCtrl keepsReceived_shutdownBody _ _ s
  case send => exact keepsReceived_acceptCtrl (keepsReceived_onlyActive (keepsReceived_checkedFrames _)) _ _ s
  case readStatus => exact keepsReceived_acceptCtrl (keepsReceived_onlyActive (keepsReceived_checkedFrames _)) _ _ s
  case clearFaults => exact keepsReceived_acceptCtrl (keepsReceived_onlyActive (keepsReceived_startHostFrames _)) _ _ s

theorem keepsReceived_of_ctrlWrite {w : Word} {s t : State} (h : ctrlWrite w s = .next t) : KeepsReceived s t := by
  obtain ⟨i, hdec, hexec⟩ | ⟨r, -, rfl⟩ := ctrlWrite_cases h
  · obtain ⟨v, hctrl⟩ := encode_of_decodeCtrl hdec
    exact keepsReceived_of_exec_ctrl hctrl hexec
  · exact keepsReceived_acceptCtrl (keepsReceived_finish .invalidArgument) _ _ s

theorem keepsReceived_storeCfg0 (v : Word) (s : State) : KeepsReceived s (storeCfg0 v s) := by
  unfold storeCfg0
  split_ifs <;> exact ⟨rfl, rfl⟩

/-- A configuration write keeps what was received where its store does (44_host_operations R310). -/
theorem keepsReceived_configWrite {store : State → State} (hstore : ∀ u, KeepsReceived u (store u)) (s : State) :
    KeepsReceived s (configWrite store s) := by
  unfold configWrite
  split_ifs
  · exact ⟨rfl, rfl⟩
  · exact hstore s
  · exact ⟨rfl, rfl⟩

/-- LASTXFER and SNAP ignore a write, and no other register's write reaches them (20_memory R89). -/
theorem keepsReceived_writeReg (off : Nat) (v : Word) (s : State) : KeepsReceived s (writeReg off v s) := by
  unfold writeReg
  split
  · exact ⟨rfl, rfl⟩
  · exact keepsReceived_configWrite (keepsReceived_storeCfg0 v) s
  · exact keepsReceived_configWrite (store := fun t => { t with cfg1 := v }) (fun _ => ⟨rfl, rfl⟩) s
  · exact ⟨rfl, rfl⟩

/-- No access of the host is a transfer (20_memory R80 to R89). -/
theorem keepsReceived_of_hostMove {a : HostAccess} {s t : State} (h : hostMove a s = .next t) : KeepsReceived s t := by
  unfold hostMove at h
  cases htarget : busTarget s.params.baseAddr a <;> rw [htarget] at h
  case write off v =>
    dsimp only at h
    split_ifs at h
    · split at h
      · exact (keepsReceived_of_ctrlWrite h :)
      · cases h; exact (keepsReceived_writeReg _ _ _ :)
    · cases h; exact ⟨rfl, rfl⟩
  all_goals cases h; exact ⟨rfl, rfl⟩

theorem keepsReceived_of_hostTurn {a : HostAccess} {s t : State} (h : hostTurn a s = .next t) : KeepsReceived s t := by
  cases hend : s.env.hostEnded with
  | true => rw [hostTurn_ended a hend] at h; cases h; exact ⟨rfl, rfl⟩
  | false => rw [hostTurn_open a hend] at h; exact keepsReceived_of_hostMove h

theorem keepsReceived_delayTick (s : State) : KeepsReceived s (delayTick s) := by
  unfold delayTick
  split_ifs <;> exact ⟨rfl, rfl⟩

/-- The release of block reset keeps what was received; block reset does not (70_reset_and_hazards R380). -/
theorem keepsReceived_rstMove {level : Bool} (h : level ≠ false) (s : State) : KeepsReceived s (rstMove level s) := by
  cases level with
  | true => exact ⟨rfl, rfl⟩
  | false => exact absurd rfl h

/-- Nothing about what was received is lost by taking the move first. -/
theorem keepsReceived_of_takeMove {s t : State} (h : KeepsReceived (takeMove s) t) : KeepsReceived s t := by
  simpa only [KeepsReceived, takeMove_lastXfer, takeMove_status] using h

/-- Only the sequencer's step at X_XFER and block reset write LASTXFER or a status register (41_transport_and_lines
R175, 10_state R39). -/
theorem keepsReceived_of_step {s t : State} (hreset : NoBlockReset s) (h : step s = .next t)
    (hxfer : ¬ Scheduled .xXfer s) : KeepsReceived s t := by
  cases hmove : nextMove s <;> rw [step_of_move hmove] at h <;> refine keepsReceived_of_takeMove ?_
  case seq =>
    obtain ⟨-, rfl⟩ | ⟨-, -, rfl⟩ | ⟨hen, hspc, -⟩ := seqMove_cases h
    · exact ⟨rfl, rfl⟩
    · exact keepsReceived_labelStep _
    · rw [takeMove_seq] at hspc
      exact absurd (hspc ▸ scheduled_of_seqEnabled hmove hen) hxfer
  case host a => exact keepsReceived_of_hostTurn h
  case rst level =>
    cases h
    refine keepsReceived_rstMove (fun hlow => hreset ?_) _
    rw [hmove, hlow]
  case clock => cases h; exact keepsReceived_delayTick _
  all_goals cases h; exact ⟨rfl, rfl⟩

/-- Settles O10: a frame leaves `lastXferOf` its byte and answer in LASTXFER, and every other step but block reset
keeps what was received. -/
theorem onlyTransfersWriteLastXfer : Obligations.OnlyTransfersWriteLastXfer := by
  refine ⟨fun i b q s hspec => ⟨sendFrame b s, exec_of_frameSpec hspec s, ?_⟩, ⟨rfl, rfl, rfl, rfl, rfl⟩,
    fun s t hreset hstep hxfer => (keepsReceived_of_step hreset hstep hxfer).1⟩
  rw [sendFrame_lastXfer]
  exact ⟨rfl, rfl, rfl, rfl⟩

end Sys2Proof.Proofs
end

section
/-! SUPPORT. The codec's pure functions (42_command_codec): the dead-time code at 17 MHz, and the fields of a status
byte. -/

namespace Sys2Proof.Proofs

open Sys2Proof.Machine Sys2Proof.Claims

/-! ### The dead-time code -/

/-- At 17 MHz a tick is 1000/17 ns, so the factor 10^6 cancels (42_command_codec R218). -/
theorem dtEncode_17MHz (t : Nat) : dtEncode 17000000 t = min 255 ((t * 17 + 500) / 1000) := by
  have hscale : t * 17000000 + 500000000 = (t * 17 + 500) * 1000000 := by omega
  rw [dtEncode, hscale, Nat.mul_div_mul_right (t * 17 + 500) 1000 (by decide : 0 < 1000000)]

/-- Where the code is not saturated it is the rounded quotient itself (42_command_codec R218). -/
theorem dtEncode_17MHz_of_lt {t : Nat} (h : t < 15030) : dtEncode 17000000 t = (t * 17 + 500) / 1000 := by
  rw [dtEncode_17MHz, min_eq_right]
  omega

/-- Where the code is not saturated, `17 t` is at most half of 1000 away from 1000 times the code, and below the upper
half: the nearest tick count, halves up (42_command_codec R218). -/
theorem dtEncode_17MHz_nearest {t : Nat} (h : t < 15030) :
    17 * t < 1000 * dtEncode 17000000 t + 500 ∧ 1000 * dtEncode 17000000 t ≤ 17 * t + 500 := by
  rw [dtEncode_17MHz_of_lt h]
  omega

/-- From the first time that rounds to 255 ticks on, the code is 255 (42_command_codec R218). -/
theorem dtEncode_17MHz_of_le {t : Nat} (h : 14971 ≤ t) : dtEncode 17000000 t = 255 := by
  rw [dtEncode_17MHz, min_eq_left]
  omega

/-- Settles O42: the formula, the nearest count and the saturation are the three lemmas on `dtEncode` at 17 MHz; the
corner values are evaluated. -/
theorem dtEncodeNearest : Obligations.DtEncodeNearest :=
  ⟨fun t _ => dtEncode_17MHz t, fun _ => dtEncode_17MHz_nearest, fun _ => dtEncode_17MHz_of_le, by decide⟩

/-! ### The status byte -/

/-- A bit of a byte as a binary digit of its number, the way 42_command_codec R216 counts the flags. -/
theorem getLsbD_eq_div_mod (b : Byte) (i : Nat) : b.getLsbD i = (b.toNat / 2 ^ i % 2 == 1) :=
  Nat.testBit_eq_decide_div_mod_eq

/-- Register 0 has the eight flags (42_command_codec R216). -/
theorem decodeStatus_zero (b : Byte) : decodeStatus 0 b = .flags
    { overTemperature := b.getLsbD 0, desaturation := b.getLsbD 1, underVoltage := b.getLsbD 2,
      overCurrent := b.getLsbD 3, phaseError := b.getLsbD 4, frameError := b.getLsbD 5,
      writeError := b.getLsbD 6, resetDetected := b.getLsbD 7 } := if_pos rfl

/-- Registers 1 to 3 are opaque (42_command_codec R217). -/
theorem decodeStatus_of_ne_zero {k : Fin 4} (b : Byte) (hk : k ≠ 0) : decodeStatus k b = .opaqueByte b := if_neg hk

/-- Settles O44: flag `i` of register 0 is binary digit `i` of the byte; the other registers return the byte. -/
theorem statusDecoding : Obligations.StatusDecoding := by
  refine ⟨fun b => ?_, fun k b => decodeStatus_of_ne_zero b⟩
  simp only [decodeStatus_zero, getLsbD_eq_div_mod, Nat.reducePow, Nat.div_one]

end Sys2Proof.Proofs
end

section
/-! SUPPORT. The changes of STATE (43_bringup_fsm R267): what an accepted CTRL write does, what each labelled step does
to STATE, and one inversion of a step by what it does to STATE and to the enable line EN2. -/

namespace Sys2Proof.Proofs

open Sys2Proof.Machine Sys2Proof.Safety Sys2Proof.Claims

/-! ### The events that drive EN2 on -/

/-- How many events of a trace drive EN2 on. -/
def en2Ons (trace : List (Nat × Event)) : Nat := (trace.map Prod.snd).count (.line .en2 true)

@[simp] theorem en2Ons_append (tr more : List (Nat × Event)) : en2Ons (tr ++ more) = en2Ons tr + en2Ons more := by
  simp [en2Ons]

@[simp] theorem en2Ons_nil : en2Ons [] = 0 := rfl

@[simp] theorem en2Ons_cons (n : Nat) (e : Event) (tr : List (Nat × Event)) :
    en2Ons ((n, e) :: tr) = en2Ons tr + if e = .line .en2 true then 1 else 0 := by
  simp [en2Ons, List.count_cons]

/-- The events a step adds do not drive EN2 on where the trace holds as many such events as before. -/
theorem en2On_not_mem_of_en2Ons_eq {s t : State} {es : List Event} (hadds : Adds es s t)
    (heq : en2Ons t.trace = en2Ons s.trace) : Event.line .en2 true ∉ es := by
  rw [hadds] at heq
  simpa [en2Ons, stamped, List.count_eq_zero, Function.comp_def] using heq

/-- STATE stays as it is, and no event drives EN2 on. -/
def KeepsStateAndEn2 (s t : State) : Prop := t.stat.state = s.stat.state ∧ en2Ons t.trace = en2Ons s.trace

/-! ### The host's accesses -/

/-- What an access must be for the PDC to perform it as a write (20_memory R80, R81). -/
theorem eq_write_of_busTarget {base off : Nat} {a : HostAccess} {v : Word} (h : busTarget base a = .write off v) :
    a = .write (base + off) 4 v := by
  cases a with
  | read addr width => simp only [busTarget] at h; split_ifs at h
  | write addr width w =>
    simp only [busTarget] at h
    split_ifs at h with hin hok
    cases h
    simp only [inWindow, accessOk, Bool.and_eq_true, decide_eq_true_eq, beq_iff_eq] at hin hok
    obtain ⟨⟨hwidth, -⟩, -⟩ := hok
    obtain ⟨hbase, -⟩ := hin
    rw [hwidth, Nat.add_sub_cancel' hbase]

theorem keepsStateAndEn2_storeCfg0 (v : Word) (s : State) : KeepsStateAndEn2 s (storeCfg0 v s) := by
  unfold storeCfg0
  split_ifs <;> simp [KeepsStateAndEn2]

/-- A configuration write keeps STATE and EN2 where its store does (44_host_operations R310). -/
theorem keepsStateAndEn2_configWrite {store : State → State} (hstore : ∀ u, KeepsStateAndEn2 u (store u))
    (s : State) : KeepsStateAndEn2 s (configWrite store s) := by
  unfold configWrite
  split_ifs
  · exact ⟨rfl, rfl⟩
  · exact hstore s
  · exact ⟨rfl, rfl⟩

/-- A write to a register other than CTRL reaches neither STATE nor EN2 (20_memory R89). -/
theorem keepsStateAndEn2_writeReg (off : Nat) (v : Word) (s : State) : KeepsStateAndEn2 s (writeReg off v s) := by
  unfold writeReg
  split
  · exact ⟨rfl, rfl⟩
  · exact keepsStateAndEn2_configWrite (keepsStateAndEn2_storeCfg0 v) s
  · exact keepsStateAndEn2_configWrite (store := fun t => { t with cfg1 := v }) (fun _ => ⟨rfl, rfl⟩) s
  · exact ⟨rfl, rfl⟩

/-- What a host access that answers a next state did: it wrote CTRL, or it kept STATE and EN2 (20_memory R80 to R89). -/
theorem hostMove_cases {a : HostAccess} {s t : State} (h : hostMove a s = .next t) :
    KeepsStateAndEn2 s t ∨
    (s.env.rstN = true ∧ ∃ w, a = .write (s.params.baseAddr + 0x00) 4 w ∧
      ctrlWrite w { s with bus := .written } = .next t) := by
  unfold hostMove at h
  cases htarget : busTarget s.params.baseAddr a <;> rw [htarget] at h
  case write off v =>
    dsimp only at h
    split_ifs at h with hrst
    · split at h
      · exact .inr ⟨hrst, v, eq_write_of_busTarget htarget, h⟩
      · cases h; exact .inl (keepsStateAndEn2_writeReg _ _ _)
    · cases h; exact .inl ⟨rfl, rfl⟩
  all_goals cases h; exact .inl ⟨rfl, rfl⟩

/-! ### The CTRL write -/

/-- What a CTRL write that is accepted does after its event: nothing, the checks and the start of INIT, SHUTDOWN, an end
with a code, or the start of frames (44_host_operations R302 to R308). -/
def CtrlOutcome (w : Word) (u t : State) : Prop :=
  t = u ∨ (w.toNat % 8 = 1 ∧ t = initBody u) ∨ (w.toNat % 8 = 2 ∧ t = shutdownBody u) ∨
    (∃ code, t = finish code u) ∨ ∃ frames, t = startHostFrames frames u

/-- `OP` is the low three bits of the word (30_encoding R116). -/
theorem ctrlOp_toNat (w : Word) : (ctrlOp w).toNat = w.toNat % 8 := by
  simp [ctrlOp, BitVec.extractLsb'_toNat]

theorem ctrlOutcome_onlyActive {w : Word} {u : State} {body : State → State} (h : CtrlOutcome w u (body u)) :
    CtrlOutcome w u (onlyActive body u) := by
  unfold onlyActive
  split_ifs
  · exact h
  · exact .inr (.inr (.inr (.inl ⟨_, rfl⟩)))

theorem ctrlOutcome_checkedFrames {w : Word} {u : State} {p : Prop} [Decidable p] (frames : List Byte) :
    CtrlOutcome w u (if p then startHostFrames frames u else finish .invalidArgument u) := by
  split_ifs
  · exact .inr (.inr (.inr (.inr ⟨_, rfl⟩)))
  · exact .inr (.inr (.inr (.inl ⟨_, rfl⟩)))

/-- A write while BUSY = 0 has the outcome of the operation's own part, after its event (44_host_operations R300). -/
theorem ctrlOutcome_acceptCtrl {w : Word} {s : State} {body : State → State} (hidle : s.stat.busy = false)
    (hbody : ∀ u, CtrlOutcome w u (body u)) (op : BitVec 3) (arg : Byte) :
    CtrlOutcome w (record (.host op arg) s) (acceptCtrl op arg body s) := by
  rw [acceptCtrl_idle hidle]
  exact hbody _

/-- An accepted operation, by its `OP` (44_host_operations R302 to R307). -/
theorem ctrlOutcome_of_exec {w : Word} {i : Instr} {s t : State} (hidle : s.stat.busy = false)
    (hdec : decodeCtrl w = .ok i) (hexec : exec i s = .next t) :
    ∃ op arg, CtrlOutcome w (record (.host op arg) s) t := by
  unfold decodeCtrl at hdec
  split at hdec <;> cases hdec <;> cases hexec <;> refine ⟨_, _, ctrlOutcome_acceptCtrl hidle (fun u => ?_) _ _⟩
  case h_1 => exact .inl rfl
  case h_2 hop => exact .inr (.inl ⟨by rw [← ctrlOp_toNat, hop], rfl⟩)
  case h_3 hop => exact .inr (.inr (.inl ⟨by rw [← ctrlOp_toNat, hop], rfl⟩))
  case h_4 | h_5 => exact ctrlOutcome_onlyActive (ctrlOutcome_checkedFrames _)
  case h_6 => exact ctrlOutcome_onlyActive (.inr (.inr (.inr (.inr ⟨_, rfl⟩))))

/-- A CTRL write is dropped while BUSY = 1, and else records its event and has one of the outcomes (R300, R301). -/
theorem ctrlWrite_outcome {w : Word} {s t : State} (h : ctrlWrite w s = .next t) :
    t = loseCommand s ∨
    (s.stat.busy = false ∧ ∃ op arg, CtrlOutcome w (record (.host op arg) s) t) := by
  cases hb : s.stat.busy with
  | true =>
    obtain ⟨i, hdec, hexec⟩ | ⟨r, -, rfl⟩ := ctrlWrite_cases h
    · obtain ⟨v, hctrl⟩ := encode_of_decodeCtrl hdec
      rw [exec_ctrl_busy hctrl hb] at hexec
      cases hexec
      exact .inl rfl
    · exact .inl (acceptCtrl_busy hb)
  | false =>
    refine .inr ⟨rfl, ?_⟩
    obtain ⟨i, hdec, hexec⟩ | ⟨r, -, rfl⟩ := ctrlWrite_cases h
    · exact ctrlOutcome_of_exec hb hdec hexec
    · exact ⟨_, _, .inr (.inr (.inr (.inl ⟨_, acceptCtrl_idle hb⟩)))⟩

/-! ### The arcs of the state machine -/

/-- The STATE a labelled step goes to, where it may change STATE (43_bringup_fsm R254 to R266). -/
def labelTarget : Label → Option PdcState
  | .xResult => some .faulted
  | .bRstAssert => some .resetAsserted
  | .bRstWait => some .resetReleased
  | .bEnWait => some .lowSideToggling
  | .bLsHold => some .highSideToggling
  | .bHsHold => some .configuring
  | .bDone => some .active
  | _ => none

theorem stepXResult_state (s : State) :
    (stepXResult s).stat.state = s.stat.state ∨ (stepXResult s).stat.state = .faulted := by
  unfold stepXResult
  cases s.seq.lastRes with
  | success => exact .inl (by simp)
  | busy =>
    dsimp only
    split_ifs
    · exact .inl (by simp)
    · exact .inr rfl
  | error | invalidArgument | timeout => exact .inr rfl

theorem keepsStateAndEn2_stepXNext (s : State) : KeepsStateAndEn2 s (stepXNext s) := by
  unfold stepXNext
  dsimp only
  split_ifs
  · simp [KeepsStateAndEn2]
  · split <;> simp [KeepsStateAndEn2]

theorem keepsStateAndEn2_stepCalSel (s : State) : KeepsStateAndEn2 s (stepCalSel s) := by
  unfold stepCalSel
  split_ifs <;> simp [KeepsStateAndEn2]

/-- A labelled step keeps STATE or goes to its label's target. -/
theorem labelStep_state (s : State) :
    (labelStep s).stat.state = s.stat.state ∨ labelTarget s.seq.spc = some (labelStep s).stat.state := by
  unfold labelStep
  cases hspc : s.seq.spc
  case xResult => exact (stepXResult_state s).imp_right fun h => congrArg some h.symm
  case xNext => exact .inl (keepsStateAndEn2_stepXNext s).1
  case bCalSel => exact .inl (keepsStateAndEn2_stepCalSel s).1
  case bRstAssert | bRstWait | bEnWait | bLsHold | bHsHold | bDone => exact .inr rfl
  all_goals exact .inl rfl

/-- The step of a label that has a target makes the arc from the STATE the label is run in (43_bringup_fsm R267). -/
theorem arcMove_of_labelTarget {s : State} {st : PdcState} (hfit : StateFitsLabel s) (hsched : Scheduled s.seq.spc s)
    (htarget : labelTarget s.seq.spc = some st) : arcMove s s.stat.state st := by
  unfold StateFitsLabel at hfit
  cases hspc : s.seq.spc <;> rw [hspc] at hfit hsched htarget <;> cases htarget
  case xResult =>
    cases hkind : s.seq.opKind <;> rw [hkind] at hfit <;> rw [eq_of_beq hfit]
    · exact hsched
    · exact .inl hsched
  all_goals rw [eq_of_beq hfit]; exact hsched

/-- INIT leaves `PoweredOff`, or `Faulted` where one of its checks fails (44_host_operations R302). -/
theorem initBody_state (s : State) :
    (initBody s).stat.state = .poweredOff ∨ (initBody s).stat.state = .faulted := by
  unfold initBody
  dsimp only
  split_ifs
  · exact .inr rfl
  · exact .inr rfl
  · exact .inl rfl

/-! ### What a step does to STATE and to EN2 -/

@[simp] theorem en2Ons_raiseFault (c : StatusCode) (s : State) : en2Ons (raiseFault c s).trace = en2Ons s.trace := by
  cases hcs : s.lines.csSel with
  | true => simp [raiseFault_of_selected hcs]
  | false => simp [raiseFault_of_deselected hcs]

@[simp] theorem en2Ons_driveInactive (s : State) : en2Ons (driveInactive s).trace = en2Ons s.trace := by
  simp [driveInactive]

theorem en2Ons_initBody (s : State) : en2Ons (initBody s).trace = en2Ons s.trace := by
  unfold initBody
  dsimp only
  split_ifs <;> simp

theorem en2Ons_shutdownBody (s : State) : en2Ons (shutdownBody s).trace = en2Ons s.trace := by
  simp [shutdownBody]

theorem en2Ons_stepXResult (s : State) : en2Ons (stepXResult s).trace = en2Ons s.trace := by
  unfold stepXResult
  cases s.seq.lastRes with
  | busy =>
    dsimp only
    split_ifs <;> simp
  | _ => simp

/-- B_EN2 is the only label whose step drives EN2 on (43_bringup_fsm R258). -/
theorem en2Ons_labelStep {s : State} (h : s.seq.spc ≠ .bEn2) : en2Ons (labelStep s).trace = en2Ons s.trace := by
  unfold labelStep
  cases hspc : s.seq.spc
  case xResult => exact en2Ons_stepXResult s
  case xNext => exact (keepsStateAndEn2_stepXNext s).2
  case bCalSel => exact (keepsStateAndEn2_stepCalSel s).2
  case bEn2 => exact absurd hspc h
  all_goals
    simp [stepXSel, stepXUnsel, selectDevice, unselectDevice, stepRstAssert, stepRstWait, stepEn1, stepEnWait,
      stepLsHold, stepHsHold, stepCalHold, stepDone, stepHDone]

/-- X_XFER's step is a transfer, which keeps STATE and the lines (43_bringup_fsm R253). -/
theorem keepsStateAndEn2_sendFrame (b : Byte) (s : State) : KeepsStateAndEn2 s (sendFrame b s) := by
  refine ⟨?_, by simp [sendFrame_trace]⟩
  rw [sendFrame_stat, transferWith_stat, takeAnswer_stat]

theorem keepsStateAndEn2_delayTick (s : State) : KeepsStateAndEn2 s (delayTick s) := by
  unfold delayTick
  split_ifs <;> exact ⟨rfl, rfl⟩

/-- What an accepted CTRL write does to EN2 and to STATE: only INIT and SHUTDOWN set STATE (44_host_operations R302,
R304). -/
theorem state_of_ctrlOutcome {w : Word} {u t : State} (h : CtrlOutcome w u t) :
    en2Ons t.trace = en2Ons u.trace ∧
    (t.stat.state = u.stat.state ∨ (t.stat.state = .faulted ∧ w.toNat % 8 = 1) ∨
      (t.stat.state = .poweredOff ∧ (w.toNat % 8 = 1 ∨ w.toNat % 8 = 2))) := by
  obtain rfl | ⟨hop, rfl⟩ | ⟨hop, rfl⟩ | ⟨code, rfl⟩ | ⟨frames, rfl⟩ := h
  · exact ⟨rfl, .inl rfl⟩
  · refine ⟨en2Ons_initBody u, .inr ?_⟩
    exact (initBody_state u).symm.imp (fun hfault => ⟨hfault, hop⟩) (fun hoff => ⟨hoff, .inl hop⟩)
  · exact ⟨en2Ons_shutdownBody u, .inr (.inr ⟨rfl, .inr hop⟩)⟩
  · exact ⟨by simp, .inl rfl⟩
  · exact ⟨by simp, .inl rfl⟩

/-- The host writes INIT or SHUTDOWN while BUSY = 0, and that leaves STATE in `t` (43_bringup_fsm R267). -/
def HostSetsState (s t : State) : Prop :=
  s.stat.busy = false ∧ ∃ w, HostWrites 0x00 w s ∧
    ((t.stat.state = .faulted ∧ w.toNat % 8 = 1) ∨
      (t.stat.state = .poweredOff ∧ (w.toNat % 8 = 1 ∨ w.toNat % 8 = 2)))

theorem keepsStateAndEn2_of_takeMove {s t : State} (h : KeepsStateAndEn2 (takeMove s) t) : KeepsStateAndEn2 s t := by
  simpa only [KeepsStateAndEn2, takeMove_stat, takeMove_trace] using h

/-- The host's move never drives EN2 on, and it sets STATE only by INIT or SHUTDOWN (44_host_operations R300 to R308). -/
theorem host_step_cases {a : HostAccess} {s t : State} (hmove : nextMove s = .host a)
    (h : hostTurn a (takeMove s) = .next t) : KeepsStateAndEn2 s t ∨
      (HostSetsState s t ∧ en2Ons t.trace = en2Ons s.trace) := by
  cases hend : s.env.hostEnded with
  | true =>
    rw [hostTurn_ended a (by simpa using hend)] at h
    cases h
    exact .inl ⟨by simp, by simp⟩
  | false =>
    rw [hostTurn_open a (by simpa using hend)] at h
    obtain hkeep | ⟨hrst, w, rfl, hctrl⟩ := hostMove_cases h
    · exact .inl (keepsStateAndEn2_of_takeMove hkeep)
    · have hwrite : HostWrites 0x00 w s := ⟨by rw [hmove, takeMove_params], by simpa using hrst, hend⟩
      obtain rfl | ⟨hidle, op, arg, hout⟩ := ctrlWrite_outcome hctrl
      · exact .inl ⟨by simp, by simp⟩
      · obtain ⟨hen2, hsame | hset⟩ := state_of_ctrlOutcome hout
        · exact .inl ⟨by simpa using hsame, by simpa using hen2⟩
        · exact .inr ⟨⟨by simpa using hidle, w, hwrite, hset⟩, by simpa using hen2⟩

/-- What a step does to STATE and to EN2, said once: it keeps both; or the host's INIT or SHUTDOWN sets STATE; or it is
block reset; or it is the sequencer's labelled step (43_bringup_fsm R250, R267). -/
theorem state_step_cases {s t : State} (h : step s = .next t) :
    KeepsStateAndEn2 s t ∨ (HostSetsState s t ∧ en2Ons t.trace = en2Ons s.trace) ∨
    (nextMove s = .rst false ∧ en2Ons t.trace = en2Ons s.trace) ∨
    (Scheduled s.seq.spc s ∧ t = labelStep (takeMove s)) := by
  cases hmove : nextMove s <;> rw [step_of_move hmove] at h
  case host a => exact (host_step_cases hmove h).imp_right .inl
  case seq =>
    obtain ⟨-, rfl⟩ | ⟨hen, -, rfl⟩ | ⟨-, -, b, i, -, hdec, hexec⟩ := seqMove_cases h
    · exact .inl ⟨by simp, by simp⟩
    · exact .inr (.inr (.inr ⟨scheduled_of_seqEnabled hmove hen, rfl⟩))
    · rw [exec_frame (encode_of_decodeFrame hdec)] at hexec
      cases hexec
      exact .inl (keepsStateAndEn2_of_takeMove (keepsStateAndEn2_sendFrame b _))
  case clock => cases h; exact .inl (keepsStateAndEn2_of_takeMove (keepsStateAndEn2_delayTick _))
  case rst level =>
    cases h
    cases level with
    | true => exact .inl (keepsStateAndEn2_of_takeMove ⟨rfl, rfl⟩)
    | false => exact .inr (.inr (.inl ⟨rfl, by simp⟩))
  all_goals
    cases h
    exact .inl (keepsStateAndEn2_of_takeMove ⟨rfl, rfl⟩)

/-! ### The transition table -/

/-- An INIT or SHUTDOWN that changes STATE makes an arc from a state at rest (43_bringup_fsm R267). -/
theorem arcMove_of_hostSetsState {s t : State} (hfree : IdleMeansFree s) (hfit : StateFitsLabel s)
    (hset : HostSetsState s t) (hne : t.stat.state ≠ s.stat.state) : arcMove s s.stat.state t.stat.state := by
  obtain ⟨hidle, w, hwrite, hop⟩ := hset
  have hrest : s.stat.state = .poweredOff ∨ s.stat.state = .active ∨ s.stat.state = .faulted := by
    rw [StateFitsLabel, hfree.mp hidle] at hfit
    simpa [labelStateOk, restState, or_assoc] using hfit
  obtain ⟨hto, hinit⟩ | ⟨hto, hop⟩ := hop <;> rw [hto] at hne ⊢
  · obtain hfrom | hfrom | hfrom := hrest <;> rw [hfrom] at hne ⊢
    · exact ⟨hidle, w, hwrite, hinit⟩
    · exact .inr ⟨hidle, w, hwrite, hinit⟩
    · exact absurd rfl hne
  · obtain hfrom | hfrom | hfrom := hrest <;> rw [hfrom] at hne ⊢
    · exact absurd rfl hne
    · exact ⟨hidle, w, hwrite, hop⟩
    · exact ⟨hidle, w, hwrite, hop⟩

/-- Settles O52: a labelled step goes to its label's target from the STATE the label is run in; the host sets STATE only
while BUSY = 0, so from a state at rest. -/
theorem stateChangesFollowTheTable : Obligations.StateChangesFollowTheTable := by
  intro s t hinv hreset hstep hne
  obtain ⟨hfree, hfit, -⟩ := hinv
  obtain ⟨hsame, -⟩ | ⟨hset, -⟩ | ⟨hlow, -⟩ | ⟨hsched, rfl⟩ := state_step_cases hstep
  · exact absurd hsame hne
  · exact arcMove_of_hostSetsState hfree hfit hset hne
  · exact absurd hlow hreset
  · obtain hsame | htarget := labelStep_state (takeMove s)
    · exact absurd (hsame.trans (by simp)) hne
    · exact arcMove_of_labelTarget hfit hsched (by simpa using htarget)

end Sys2Proof.Proofs
end

section
/-! SUPPORT. The sequencer's labelled steps (43_bringup_fsm R253 to R266, 44_host_operations R309), each from its label
being scheduled, and being due where it begins with a wait, to the state it leaves. -/

namespace Sys2Proof.Proofs

open Sys2Proof.Machine Sys2Proof.Safety Sys2Proof.Claims

/-! ### The sequencer's move at a label -/

/-- At a label without a wait the sequencer's step is enabled (43_bringup_fsm R250). -/
theorem seqEnabled_of_no_wait {l : Label} {s : State} (hsched : Scheduled l s)
    (hwait : waitOf s.params s.cfg0 l = none) : seqEnabled (takeMove s) = true := by
  obtain ⟨-, hrst, hbusy, hspc⟩ := hsched
  simp [seqEnabled, hrst, hbusy, hspc, hwait]

/-- Taking the move leaves the sequencer at the label that is scheduled. -/
theorem takeMove_spc {l : Label} {s : State} (hsched : Scheduled l s) : (takeMove s).seq.spc = l := by
  obtain ⟨-, -, -, hspc⟩ := hsched
  rw [takeMove_seq, hspc]

/-- At a label without a wait, but X_XFER, the sequencer takes the label's step `f` (43_bringup_fsm R250). -/
theorem step_of_no_wait {l : Label} {s : State} {f : State → State} (hsched : Scheduled l s)
    (hwait : waitOf s.params s.cfg0 l = none) (hne : l ≠ .xXfer)
    (hlabel : ∀ {u : State}, u.seq.spc = l → labelStep u = f u) : step s = .next (f (takeMove s)) := by
  have hspc := takeMove_spc hsched
  rw [step_of_move hsched.1, ← hlabel hspc]
  exact seqMove_label (seqEnabled_of_no_wait hsched hwait) (by rwa [hspc])

/-- At a label with a wait the sequencer takes the label's step `f` once the wait is over (43_bringup_fsm R250). -/
theorem step_of_due {l : Label} {s : State} {d : Nat} {f : State → State} (hdue : Due l s)
    (hwait : waitOf s.params s.cfg0 l = some d)
    (hlabel : ∀ {u : State}, u.seq.spc = l → labelStep u = f u) : step s = .next (f (takeMove s)) := by
  obtain ⟨hsched, hover⟩ := hdue
  rw [step_of_wait_over hsched hwait hover, hlabel (takeMove_spc hsched)]

/-- At X_XFER the sequencer runs the frame in progress (43_bringup_fsm R253). -/
theorem step_of_xXfer {s : State} {b : Byte} {i : Instr} (hsched : Scheduled .xXfer s)
    (hframe : s.seq.opList[s.seq.opIdx]? = some b) (hdec : decodeFrame b = .ok i) :
    step s = exec i (takeMove s) := by
  have hen := seqEnabled_of_no_wait hsched rfl
  obtain ⟨hmove, -, -, hspc⟩ := hsched
  rw [step_of_move hmove]
  exact seqMove_frame hen (by rwa [takeMove_seq]) (by rwa [currentFrame, takeMove_seq]) hdec

/-! ### The labels' steps -/

theorem labelStep_of_xSel {s : State} (h : s.seq.spc = .xSel) : labelStep s = { s with
    seq.attempt := s.seq.attempt + 1
    stat.retries := if s.seq.attempt + 1 = 1 then 0#4 else s.stat.retries
    stat.cfgStep := if s.seq.opKind = .bringup then BitVec.ofNat 2 s.seq.opIdx else s.stat.cfgStep
    lines.csSel := true
    trace := s.trace ++ [(s.env.now, .line .cs true)]
    seq.spc := .xXfer } := by
  rw [labelStep, h]
  exact goto_of_no_wait rfl

theorem labelStep_of_xUnsel {s : State} (h : s.seq.spc = .xUnsel) : labelStep s = { s with
    lines.csSel := false
    trace := s.trace ++ [(s.env.now, .line .cs false)]
    seq.spc := .xResult } := by
  rw [labelStep, h]
  exact goto_of_no_wait rfl

theorem labelStep_of_xResult {s : State} (h : s.seq.spc = .xResult) : labelStep s = stepXResult s := by
  rw [labelStep, h]

theorem labelStep_of_xBackoff {s : State} (h : s.seq.spc = .xBackoff) : labelStep s = { s with seq.spc := .xSel } := by
  rw [labelStep, h]
  exact goto_of_no_wait rfl

theorem labelStep_of_xNext {s : State} (h : s.seq.spc = .xNext) : labelStep s = { s with
    seq.opIdx := s.seq.opIdx + 1
    seq.attempt := 0
    seq.spc :=
      if s.seq.opIdx + 1 < s.seq.opList.length then .xSel
      else if s.seq.opKind = .bringup then .bCalSel else .hDone } := by
  rw [labelStep, h]
  dsimp only [stepXNext]
  split_ifs with hmore hkind
  · exact goto_of_no_wait rfl
  · rw [hkind]
    exact goto_of_no_wait rfl
  · cases hk : s.seq.opKind with
    | bringup => exact absurd hk hkind
    | hostop => exact goto_of_no_wait rfl

theorem labelStep_of_bHsHold {s : State} (h : s.seq.spc = .bHsHold) : labelStep s = { s with
    lines.hs := false
    stat.state := .configuring
    seq.opList := cfgFrames s.params s.cfg0
    seq.opIdx := 0
    seq.attempt := 0
    seq.opKind := .bringup
    seq.spc := .xSel
    trace := s.trace ++ stamped s.env.now [.line .hs false, .state .configuring] } := by
  rw [labelStep, h]
  dsimp only [stepHsHold, startFrames]
  rw [goto_of_no_wait rfl]
  simp [line, setState, record, setLine, stamped]

theorem labelStep_of_bDone {s : State} (h : s.seq.spc = .bDone) : labelStep s = { s with
    stat.state := .active
    result := .success
    stat.busy := false
    seq.spc := .idle
    trace := s.trace ++ stamped s.env.now [.state .active, .done .success] } := by
  rw [labelStep, h]
  simp [stepDone, finish, setState, record, stamped]

theorem labelStep_of_hDone {s : State} (h : s.seq.spc = .hDone) : labelStep s = { s with
    result := .success
    stat.busy := false
    seq.spc := .idle
    trace := s.trace ++ stamped s.env.now [.done .success] } := by
  rw [labelStep, h]
  rfl

theorem labelStep_of_bRstAssert {s : State} (h : s.seq.spc = .bRstAssert) : labelStep s = goto .bRstWait
    (setState .resetAsserted { forgetDevice (driveInactive s) with stat.cfgStep := 0#2, stat.retries := 0#4 }) := by
  rw [labelStep, h]
  rfl

theorem labelStep_of_bRstWait {s : State} (h : s.seq.spc = .bRstWait) :
    labelStep s = goto .bEn1 (setState .resetReleased (line .rst false s)) := by
  rw [labelStep, h]
  rfl

theorem labelStep_of_bEn1 {s : State} (h : s.seq.spc = .bEn1) : labelStep s = goto .bEn2 (line .en1 true s) := by
  rw [labelStep, h]
  rfl

theorem labelStep_of_bEn2 {s : State} (h : s.seq.spc = .bEn2) : labelStep s = goto .bEnWait (line .en2 true s) := by
  rw [labelStep, h]
  rfl

theorem labelStep_of_bEnWait {s : State} (h : s.seq.spc = .bEnWait) :
    labelStep s = goto .bLsHold (line .ls true (setState .lowSideToggling s)) := by
  rw [labelStep, h]
  rfl

theorem labelStep_of_bLsHold {s : State} (h : s.seq.spc = .bLsHold) :
    labelStep s = goto .bHsHold (line .hs true (setState .highSideToggling (line .ls false s))) := by
  rw [labelStep, h]
  rfl

/-! ### The steps that begin a wait -/

/-- From `s` to `t` all but the lines, STAT, the trace, SPC and the wait is kept. -/
def KeepsRest (s t : State) : Prop := KeepsRegisters s t ∧ KeepsFrameList s t

theorem keepsRest_takeMove (s : State) : KeepsRest s (takeMove s) := by
  simp [KeepsRest, KeepsRegisters, KeepsFrameList]

theorem keepsRest_goto {s u : State} (h : KeepsRest s u) (l : Label) : KeepsRest s (goto l u) := by
  simpa [KeepsRest, KeepsRegisters, KeepsFrameList] using h

/-- A wait label that is gone to with the rest kept has its wait begun at the time of the step (43_bringup_fsm R250). -/
theorem waitBegins_goto {s u : State} {l : Label} {d : Nat} (hkeeps : KeepsRest s u)
    (hwait : waitOf s.params s.cfg0 l = some d) : WaitBegins d s (goto l u) := by
  obtain ⟨⟨-, hcfg0, -, -, -, -, hparams, hnow, -⟩, -⟩ := hkeeps
  obtain ⟨hd, hstart⟩ := goto_wait (l := l) (s := u) (by rwa [hparams, hcfg0])
  exact ⟨hstart.trans hnow, hd⟩

/-- The step that does `u` and goes to a wait label: its lines, STAT and events are those of `u`, its wait begins now,
and the rest is kept. -/
theorem step_to_wait {s u : State} {l : Label} {d : Nat} {b : Lines} {st : Stat} {es : List Event}
    (hstep : step s = .next (goto l u)) (hkeeps : KeepsRest s u) (hwait : waitOf s.params s.cfg0 l = some d)
    (hlines : u.lines = b) (hstat : u.stat = st) (hadds : Adds es s u) :
    ∃ t, step s = .next t ∧ t.lines = b ∧ t.stat = st ∧ Adds es s t ∧ t.seq.spc = l ∧ WaitBegins d s t ∧
      KeepsRegisters s t ∧ KeepsFrameList s t :=
  ⟨goto l u, hstep, by rw [goto_lines, hlines], by rw [goto_stat, hstat], by rw [Adds, goto_trace, hadds],
    goto_seq_spc l u, waitBegins_goto hkeeps hwait, keepsRest_goto hkeeps l⟩

/-- The step of a wait label `k` whose wait is over, where it does `g` and goes to the next wait label. -/
theorem step_to_wait_of_due {k l : Label} {s : State} {e d : Nat} {g : State → State} {b : Lines} {st : Stat}
    {es : List Event} (hdue : Due k s) (hover : waitOf s.params s.cfg0 k = some e)
    (hlabel : ∀ {u : State}, u.seq.spc = k → labelStep u = goto l (g u))
    (hkeeps : KeepsRest s (g (takeMove s))) (hwait : waitOf s.params s.cfg0 l = some d)
    (hlines : (g (takeMove s)).lines = b) (hstat : (g (takeMove s)).stat = st) (hadds : Adds es s (g (takeMove s))) :
    ∃ t, step s = .next t ∧ t.lines = b ∧ t.stat = st ∧ Adds es s t ∧ t.seq.spc = l ∧ WaitBegins d s t ∧
      KeepsRegisters s t ∧ KeepsFrameList s t :=
  step_to_wait (step_of_due (f := fun u => goto l (g u)) hdue hover hlabel) hkeeps hwait hlines hstat hadds

/-! ### The invariant at a label -/

/-- At a wait label WAIT_D is the label's wait. -/
theorem waitD_of_stateInv {l : Label} {s : State} {d : Nat} (hinv : StateInv s) (hsched : Scheduled l s)
    (hwait : waitOf s.params s.cfg0 l = some d) : s.seq.waitD = d := by
  obtain ⟨-, -, -, -, -, -, -, -, -, hfits, -⟩ := hinv
  obtain ⟨-, -, -, rfl⟩ := hsched
  obtain ⟨hd, -⟩ := hfits d hwait
  exact hd

/-- The reset and enable lines at the label that is scheduled. -/
theorem powerLines_of_stateInv {l : Label} {s : State} (hinv : StateInv s) (hsched : Scheduled l s) :
    powerLinesOk l s.stat.state s.lines = true := by
  obtain ⟨-, -, -, -, hpower, -⟩ := hinv
  obtain ⟨-, -, -, rfl⟩ := hsched
  exact hpower

/-- STATE is one the label is run in. -/
theorem state_of_stateInv {l : Label} {s : State} (hinv : StateInv s) (hsched : Scheduled l s) :
    labelStateOk l s.seq.opKind s.stat.state = true := by
  obtain ⟨-, hfit, -⟩ := hinv
  obtain ⟨-, -, -, rfl⟩ := hsched
  exact hfit

/-! ### The transfer procedure -/

/-- Settles O27: each label's step is its equation; at X_XFER the frame in progress is run, which is a transfer. -/
theorem transferProcedureSteps : Obligations.TransferProcedureSteps := by
  refine ⟨fun s hsched => ?_, fun s b i hsched hframe hdec => ?_, fun s hsched => ?_, fun s hdue => ?_,
    fun s hsched => ?_⟩
  · rw [step_of_no_wait hsched rfl (by decide) labelStep_of_xSel]
    simp
  · have hexec := exec_frame (encode_of_decodeFrame hdec) (takeMove s)
    have hstep := (step_of_xXfer hsched hframe hdec).trans hexec
    refine ⟨sendFrame b (takeMove s), hstep, hexec, ?_, ?_, sendFrame_spc _ _⟩
    · rw [sendFrame_lastXfer, lastXferOf]
    · rw [sendFrame_lastRes, sendFrame_lastXfer, lastXferOf]
  · rw [step_of_no_wait hsched rfl (by decide) labelStep_of_xUnsel]
    simp
  · exact step_of_due hdue rfl labelStep_of_xBackoff
  · rw [step_of_no_wait hsched rfl (by decide) labelStep_of_xNext]
    simp

/-- Settles O28: X_RESULT's step is `stepXResult`, by LASTRES; the backoff is a wait that begins with all else kept. -/
theorem resultHandling : Obligations.ResultHandling := by
  intro s hsched
  rw [step_of_no_wait hsched rfl (by decide) labelStep_of_xResult, stepXResult, takeMove_seq, takeMove_params]
  refine ⟨fun hres => ?_, fun hres hmore => ?_, fun hres hlast => ?_, fun hres => ?_, fun hres => ?_, fun hres => ?_⟩
  all_goals rw [hres]
  · exact congrArg _ (goto_of_no_wait rfl)
  · have hkeeps := keepsRest_takeMove s
    exact ⟨goto .xBackoff (takeMove s), congrArg _ (if_pos hmore), goto_seq_spc _ _, waitBegins_goto hkeeps rfl,
      by simp, by simp, by simp, keepsRest_goto hkeeps _⟩
  · exact congrArg _ (if_neg (Nat.not_le.mpr hlast))

/-! ### The bring-up -/

/-- Settles O30: the lines, STAT and the events are those of `driveInactive` and `forgetDevice`, before the wait. -/
theorem resetPulseStarts : Obligations.ResetPulseStarts := by
  intro s hsched
  have hstep := step_of_no_wait hsched rfl (by decide) labelStep_of_bRstAssert
  rw [driveInactive_eq] at hstep
  exact step_to_wait hstep (keepsRest_takeMove s) rfl rfl (by simp) (by simp [Adds, stamped])

/-- Settles O31: by the invariant WAIT_D is T_RST_NS at B_RST_WAIT, and RST is asserted there. -/
theorem resetPulseHeldThenReleased : Obligations.ResetPulseHeldThenReleased := by
  refine ⟨fun s hinv hsched hearly => ⟨?_, ?_⟩, fun s hinv hsched hover => ?_⟩
  · have hpower := powerLines_of_stateInv hinv hsched
    simp only [powerLinesOk, Bool.and_eq_true] at hpower
    obtain ⟨⟨hrst, -⟩, -⟩ := hpower
    exact hrst
  · rw [← waitD_of_stateInv hinv hsched rfl] at hearly
    exact step_of_wait_early hsched rfl hearly
  · rw [← waitD_of_stateInv hinv hsched rfl] at hover
    exact step_to_wait_of_due ⟨hsched, hover⟩ rfl labelStep_of_bRstWait (keepsRest_takeMove s) rfl (by simp [setLine])
      (by simp) (by simp [Adds, stamped])

/-- A step that drives EN2 on is B_EN2's, and that is its only event (43_bringup_fsm R258). -/
theorem en2On_cases {s t : State} {es : List Event} (hstep : step s = .next t) (hadds : Adds es s t)
    (hmem : Event.line .en2 true ∈ es) : Scheduled .bEn2 s ∧ es = [.line .en2 true] := by
  have hne : en2Ons t.trace ≠ en2Ons s.trace := fun heq => en2On_not_mem_of_en2Ons_eq hadds heq hmem
  obtain ⟨-, heq⟩ | ⟨-, heq⟩ | ⟨-, heq⟩ | ⟨hsched, rfl⟩ := state_step_cases hstep
  · exact absurd heq hne
  · exact absurd heq hne
  · exact absurd heq hne
  · have hspc : s.seq.spc = .bEn2 := by
      by_contra hother
      exact hne ((en2Ons_labelStep (by simpa using hother)).trans (by simp))
    rw [hspc] at hsched
    refine ⟨hsched, ?_⟩
    rw [Adds, labelStep_of_bEn2 (takeMove_spc hsched)] at hadds
    simpa [stamped] using (congrArg (List.map Prod.snd) hadds).symm

/-- Settles O32: only B_EN2 drives EN2 on, and there the invariant has EN1 on and RST released. -/
theorem enablesInOrder : Obligations.EnablesInOrder := by
  refine ⟨fun s hdue => ?_, fun s hdue => ?_, fun s t es hinv hstep hadds hmem => ?_, fun s l hl hsched => ?_⟩
  · exact step_to_wait_of_due hdue rfl labelStep_of_bEn1 (keepsRest_takeMove s) rfl (by simp [setLine])
      (by simp) (by simp [Adds, stamped])
  · exact step_to_wait_of_due hdue rfl labelStep_of_bEn2 (keepsRest_takeMove s) rfl (by simp [setLine])
      (by simp) (by simp [Adds, stamped])
  · obtain ⟨hsched, rfl⟩ := en2On_cases hstep hadds hmem
    have hpower := powerLines_of_stateInv hinv hsched
    simp only [powerLinesOk, Bool.and_eq_true, Bool.not_eq_true'] at hpower
    obtain ⟨⟨hrst, hen1⟩, -⟩ := hpower
    exact ⟨hen1, hrst, by decide⟩
  · obtain rfl | rfl := hl <;> exact step_of_wait_early hsched rfl

/-- Settles O33: each step drives its lines and begins the next wait; before its own wait is over it holds. -/
theorem lowSidePulse : Obligations.LowSidePulse := by
  refine ⟨fun s hdue => ?_, fun s hdue => ?_, fun s l hl hsched => ?_⟩
  · exact step_to_wait_of_due hdue rfl labelStep_of_bEnWait (keepsRest_takeMove s) rfl (by simp [setLine])
      (by simp) (by simp [Adds, stamped])
  · exact step_to_wait_of_due hdue rfl labelStep_of_bLsHold (keepsRest_takeMove s) rfl (by simp [setLine])
      (by simp) (by simp [Adds, stamped])
  · obtain rfl | rfl := hl <;> exact step_of_wait_early hsched rfl

/-- Settles O34: B_HS_HOLD's step is its equation; before its wait is over it holds. -/
theorem configurationStarts : Obligations.ConfigurationStarts := by
  refine ⟨fun s hdue => ?_, fun s hsched => step_of_wait_early hsched rfl⟩
  rw [step_of_due hdue rfl labelStep_of_bHsHold]
  simp

/-! ### The ends of an operation -/

/-- Settles O37: both ends are their equations; the invariant has STATE at `Active` at H_DONE. -/
theorem operationsEndInSuccess : Obligations.OperationsEndInSuccess := by
  refine ⟨fun s hsched => ?_, fun s hsched => ?_, fun s hinv hsched => eq_of_beq (state_of_stateInv hinv hsched)⟩
  · rw [step_of_no_wait hsched rfl (by decide) labelStep_of_bDone]
    simp
  · rw [step_of_no_wait hsched rfl (by decide) labelStep_of_hDone]
    simp

end Sys2Proof.Proofs
end

section
/-! SUPPORT. The host operations and the configuration registers (44_host_operations): a CTRL write while BUSY = 1 and
with a reserved OP, NOP, SHUTDOWN, and the writes of CFG0 and CFG1. -/

namespace Sys2Proof.Proofs

open Sys2Proof.Machine Sys2Proof.Safety Sys2Proof.Claims

/-! ### The CTRL write while BUSY = 1 -/

/-- The host's write of CTRL is `ctrlWrite`, after the write is answered (44_host_operations R300). -/
theorem step_of_hostWrites_ctrl {w : Word} {s : State} (h : HostWrites 0x00 w s) :
    step s = ctrlWrite w { takeMove s with bus := .written } := by
  obtain ⟨hmove, hrst, hopen⟩ := h
  rw [step_of_host hmove hopen, hostMove, takeMove_params, busTarget_write_register (by decide) (by decide)]
  simp [hrst]

/-- An instruction that is no frame is a host operation, with a CTRL word (30_encoding R116). -/
theorem encode_of_not_isFrame {i : Instr} (h : isFrame i = false) : ∃ w, encode i = .ctrl w := by
  obtain ⟨b, hframe⟩ | hctrl := encode_cases i
  · cases i <;> cases hframe <;> cases h
  · exact hctrl

/-- A CTRL write while BUSY = 1 is dropped, with a reserved OP too (44_host_operations R301). -/
theorem ctrlWrite_busy {s : State} (hbusy : s.stat.busy = true) (w : Word) :
    ctrlWrite w s = .next (loseCommand s) := by
  unfold ctrlWrite
  split
  · next i hdec =>
    obtain ⟨v, hctrl⟩ := encode_of_decodeCtrl hdec
    exact exec_ctrl_busy hctrl hbusy
  · exact congrArg _ (acceptCtrl_busy hbusy)

/-- Settles O12: an operation's own rule and the CTRL write both lose the command while BUSY = 1. -/
theorem busyCtrlWriteDropped : Obligations.BusyCtrlWriteDropped := by
  refine ⟨fun i s hframe hbusy => ?_, fun w s hwrite hbusy => ?_⟩
  · obtain ⟨w, hctrl⟩ := encode_of_not_isFrame hframe
    exact exec_ctrl_busy hctrl hbusy
  · rw [step_of_hostWrites_ctrl hwrite, ctrlWrite_busy (by simpa using hbusy)]
    rfl

/-! ### NOP, SHUTDOWN and the reserved operations -/

/-- NOP is a CTRL write of `OP` 0 with nothing to do (44_host_operations R303). -/
theorem exec_nop (arg : Byte) (s : State) : exec (.nop arg) s = .next (acceptCtrl 0#3 arg id s) := rfl

/-- SHUTDOWN is a CTRL write of `OP` 2 (44_host_operations R304). -/
theorem exec_shutdown (arg : Byte) (s : State) :
    exec (.shutdown arg) s = .next (acceptCtrl 2#3 arg shutdownBody s) := rfl

/-- Settles O14: NOP has no part of its own, so its event is all it adds; while BUSY = 1 it is dropped. -/
theorem nopOnlyRecords : Obligations.NopOnlyRecords := by
  refine fun arg s => ⟨fun hidle => ?_, fun hbusy => ?_⟩
  · rw [exec_nop, acceptCtrl_idle hidle]
    rfl
  · rw [exec_nop, acceptCtrl_busy hbusy]
    rfl

/-- SHUTDOWN's own part: the lines as after block reset, no device known, `PoweredOff`, `Success`, and its events in
order (44_host_operations R304). -/
theorem shutdownBody_eq (s : State) :
    shutdownBody s = { s with
      lines := Lines.reset
      stat.prevReq := .noReq
      stat.snapValid := 0#4
      stat.state := .poweredOff
      stat.busy := false
      result := .success
      seq.spc := .idle
      trace := s.trace ++ stamped s.env.now
        [.line .rst true, .line .en1 false, .line .en2 false, .line .cs false, .line .ls false, .line .hs false,
         .state .poweredOff, .done .success] } := by
  simp [shutdownBody, driveInactive_eq, forgetDevice, setState, finish, record, stamped]

/-- Settles O17: SHUTDOWN's own part, after its event. -/
theorem shutdownMakesSafe : Obligations.ShutdownMakesSafe := by
  intro arg s hidle
  rw [exec_shutdown, acceptCtrl_idle hidle, shutdownBody_eq]
  simp [record, stamped, Lines.reset]

/-- `OP` 6 and 7 name no operation (30_encoding R117, 44_host_operations R308). -/
theorem ctrlWrite_of_reserved {w : Word} (h : 6 ≤ w.toNat % 8) (s : State) :
    ctrlWrite w s = .next (reservedOp w s) := by
  have hdec : decodeCtrl w = .error (.reservedOp (ctrlOp w)) := by
    rw [← ctrlOp_toNat] at h
    unfold decodeCtrl
    split
    case h_7 => rfl
    all_goals omega
  simp [ctrlWrite, hdec]

/-- Settles O21: a reserved OP ends at its own write, whatever STATE is. -/
theorem reservedOpInvalid : Obligations.ReservedOpInvalid := by
  intro w s hwrite hidle hop
  rw [step_of_hostWrites_ctrl hwrite, ctrlWrite_of_reserved hop, reservedOp, acceptCtrl_idle (by simpa using hidle),
    finish_record_host]
  simp [ctrlOp, ctrlArg]

/-! ### The configuration registers -/

theorem configWrite_busy {store : State → State} {s : State} (hbusy : s.stat.busy = true) :
    configWrite store s = loseCommand s := by
  simp [configWrite, hbusy]

theorem configWrite_locked {store : State → State} {s : State} (hidle : s.stat.busy = false)
    (hlocked : cfgUnlocked s = false) : configWrite store s = { s with result := .readOnly } := by
  simp [configWrite, hidle, hlocked]

theorem configWrite_unlocked {store : State → State} {s : State} (hidle : s.stat.busy = false)
    (hfree : cfgUnlocked s = true) : configWrite store s = store s := by
  simp [configWrite, hidle, hfree]

/-- The configuration is unlocked in `PoweredOff` and `Faulted` only (44_host_operations R310). -/
theorem cfgUnlocked_iff (s : State) :
    cfgUnlocked s = true ↔ s.stat.state = .poweredOff ∨ s.stat.state = .faulted := by
  simp [cfgUnlocked]

theorem writeReg_cfg0 (v : Word) : writeReg 0x0C v = configWrite (storeCfg0 v) := rfl

theorem writeReg_cfg1 (v : Word) : writeReg 0x10 v = configWrite (fun t => { t with cfg1 := v }) := rfl

/-- A write at the offset of CFG0 or CFG1 is a configuration write (44_host_operations R310). -/
theorem writeReg_eq_configWrite {off : Nat} (hoff : off = 0x0C ∨ off = 0x10) (v : Word) :
    ∃ store, writeReg off v = configWrite store := by
  obtain rfl | rfl := hoff
  · exact ⟨_, writeReg_cfg0 v⟩
  · exact ⟨_, writeReg_cfg1 v⟩

/-- The host's write of CFG0 or CFG1 is a configuration write, after the write is answered (20_memory R80). -/
theorem step_of_hostWrites_config {off : Nat} {v : Word} {s : State} (hoff : off = 0x0C ∨ off = 0x10)
    (h : HostWrites off v s) : step s = .next (writeReg off v { takeMove s with bus := .written }) := by
  obtain rfl | rfl := hoff <;> exact step_of_hostWrites_register h (by decide) (by decide) (by decide)

/-- CFG0 keeps CS_POL as written: bit 11 is not reserved (10_state R28). -/
theorem cfgCsPol_cfg0Stored (v : Word) : cfgCsPol (cfg0Stored v) = v.getLsbD 11 := by
  simp [cfgCsPol, cfg0Stored]

/-- CFG0 takes the word less its reserved bits, and a change of CS_POL is an event of CS (44_host_operations R310). -/
theorem storeCfg0_eq (v : Word) (s : State) :
    storeCfg0 v s = { s with
      cfg0 := v &&& 0xFFFF0FFF#32
      trace := s.trace ++ (if v.getLsbD 11 = s.cfg0.getLsbD 11 then [] else [(s.env.now, .line .cs false)]) } := by
  unfold storeCfg0
  rw [cfgCsPol_cfg0Stored, cfgCsPol]
  split_ifs
  · simp [cfg0Stored]
  · rfl

/-- Settles O41: the three branches of a configuration write; where it is stored, CFG0 is `storeCfg0_eq`. -/
theorem configurationWrites : Obligations.ConfigurationWrites := by
  refine ⟨fun off v s hoff hwrite hbusy => ?_, fun off v s hoff hwrite hidle hpowered hfaulted => ?_,
    fun v s hwrite hidle hstate => ?_, fun v s hwrite hidle hstate => ?_⟩
  · obtain ⟨store, hstore⟩ := writeReg_eq_configWrite hoff v
    rw [step_of_hostWrites_config hoff hwrite, hstore, configWrite_busy (by simpa using hbusy)]
    rfl
  · obtain ⟨store, hstore⟩ := writeReg_eq_configWrite hoff v
    rw [step_of_hostWrites_config hoff hwrite, hstore,
      configWrite_locked (by simpa using hidle) (by simp [cfgUnlocked, hpowered, hfaulted])]
  · rw [step_of_hostWrites_config (.inl rfl) hwrite, writeReg_cfg0,
      configWrite_unlocked (by simpa using hidle) ((cfgUnlocked_iff _).mpr (by simpa using hstate)), storeCfg0_eq]
    simp
  · rw [step_of_hostWrites_config (.inr rfl) hwrite, writeReg_cfg1,
      configWrite_unlocked (by simpa using hidle) ((cfgUnlocked_iff _).mpr (by simpa using hstate))]

end Sys2Proof.Proofs
end

section
/-! SUPPORT. The fault entry (60_exceptions R343): what it writes, for either value of CS, and CS at the scheduled label. -/

namespace Sys2Proof.Proofs

open Sys2Proof.Machine Sys2Proof.Safety Sys2Proof.Claims

/-- CS is selected exactly at the labels that hold it selected (41_transport_and_lines R181). -/
theorem csSel_of_stateInv {l : Label} {s : State} (hinv : StateInv s) (hsched : Scheduled l s) :
    s.lines.csSel = csLabel l := by
  obtain ⟨-, -, ⟨hcs, -⟩, -⟩ := hinv
  obtain ⟨-, -, -, rfl⟩ := hsched
  exact hcs

/-- Deselecting CS where it is deselected already changes no line. -/
theorem lines_deselected {s : State} (h : s.lines.csSel = false) : { s.lines with csSel := false } = s.lines := by
  rw [← h]

/-- The fault entry as one record, for either value of CS: only the event of CS depends on it (60_exceptions R343). -/
theorem raiseFault_eq (code : StatusCode) (s : State) : raiseFault code s = { s with
    stat.faultAt := s.stat.state
    lines.csSel := false
    stat.state := .faulted
    result := code
    stat.busy := false
    seq.spc := .idle
    trace := s.trace ++ stamped s.env.now
      ((if s.lines.csSel = true then [.line .cs false] else []) ++ [.state .faulted, .done code]) } := by
  cases hcs : s.lines.csSel with
  | true =>
    rw [raiseFault_of_selected hcs]
    simp [stamped]
  | false =>
    rw [raiseFault_of_deselected hcs, lines_deselected hcs]
    simp [stamped]

/-- Settles O29: the entry is `raiseFault_eq`, and X_RESULT is no label that holds CS selected. -/
theorem faultEntry : Obligations.FaultEntry :=
  ⟨raiseFault_eq, fun _ hinv hsched => csSel_of_stateInv hinv hsched⟩

end Sys2Proof.Proofs
end

section
/-! SUPPORT. The codec as a bijection (42_command_codec section 1, 30_encoding): frames and CTRL words decode to what
encodes to them, the configuration frames are legal frames with the payloads of CFG0, and the dead-time code loses at
most half a tick. -/

namespace Sys2Proof.Proofs

open Sys2Proof.Machine Sys2Proof.Safety Sys2Proof.Claims

/-! ### Frames -/

/-- A frame instruction encodes to a byte (42_command_codec R200). -/
theorem encode_of_isFrame {i : Instr} (h : isFrame i = true) : ∃ b, encode i = .frame b := by
  obtain hframe | ⟨w, hctrl⟩ := encode_cases i
  · exact hframe
  · cases i <;> cases hctrl <;> cases h

/-- What encodes to a byte is a frame instruction (42_command_codec R200). -/
theorem isFrame_of_encode_frame {i : Instr} {b : Byte} (h : encode i = .frame b) : isFrame i = true := by
  cases i <;> cases h <;> rfl

/-- What encodes to a CTRL word is a host operation (30_encoding R116). -/
theorem isFrame_of_encode_ctrl {i : Instr} {w : Word} (h : encode i = .ctrl w) : isFrame i = false := by
  cases i <;> cases h <;> rfl

/-- What the frame decoder yields has a legal payload, for each of the 256 bytes (42_command_codec R201, R202). -/
theorem wf_of_decodeFrame {b : Byte} {i : Instr} (h : decodeFrame b = .ok i) : i.wf = true := by
  have hall : ∀ b : Byte, ∀ i ∈ (decodeFrame b).toOption, i.wf = true := by decide
  exact hall b i (by rw [h]; rfl)

/-- The frame decoder takes one byte of a stream (30_encoding R115). -/
theorem decodeFrameBytes_cons {b : Byte} {i : Instr} (h : decodeFrame b = .ok i) (rest : List Byte) :
    decodeFrameBytes (b :: rest) = .ok (i, rest) := by
  simp [decodeFrameBytes, h]

/-- Settles O1: a frame's byte decodes by `decodeFrame_of_encode`; a byte that decodes is its instruction's encoding, so
its instruction is a frame. -/
theorem frameDecodeEncodeAgree : Obligations.FrameDecodeEncodeAgree := by
  refine ⟨fun i hframe hwf => ?_, fun b i hdec => ?_⟩
  · obtain ⟨b, henc⟩ := encode_of_isFrame hframe
    exact ⟨b, henc, decodeFrameBytes_cons (decodeFrame_of_encode hwf henc)⟩
  · have henc := encode_of_decodeFrame hdec
    exact ⟨isFrame_of_encode_frame henc, wf_of_decodeFrame hdec, henc⟩

/-! ### CTRL words -/

/-- The low operand of a concatenation, read back. -/
theorem extract_low_append {m n : Nat} (x : BitVec m) (y : BitVec n) : (x ++ y).extractLsb' 0 n = y := by
  ext k hk
  simp [BitVec.getLsbD_append, hk]

/-- The high operand of a concatenation, read back. -/
theorem extract_high_append {m n : Nat} (x : BitVec m) (y : BitVec n) : (x ++ y).extractLsb' n m = x := by
  ext k hk
  simp [BitVec.getLsbD_append, hk]

/-- A word cut in two and put together again. -/
theorem append_extract {m n : Nat} (x : BitVec (m + n)) : x.extractLsb' n m ++ x.extractLsb' 0 n = x := by
  ext k hk
  rw [BitVec.getElem_append]
  split <;> grind

/-- The four byte lanes of a word make the word (20_memory R82). -/
theorem wordOfLanes_lanes (w : Word) :
    wordOfLanes (w.extractLsb' 0 8) (w.extractLsb' 8 8) (w.extractLsb' 16 8) (w.extractLsb' 24 8) = w := by
  refine BitVec.eq_of_toNat_eq ?_
  have hlt := w.isLt
  simp only [wordOfLanes, toNat_append_eq_add, BitVec.extractLsb'_toNat, Nat.shiftRight_eq_div_pow]
  omega

/-- `OP` of an encoded CTRL word (30_encoding R116). -/
theorem ctrlOp_ctrlOf (op : BitVec 3) (arg : Byte) : ctrlOp (ctrlOf op arg) = op :=
  extract_low_append (0#16 ++ arg ++ 0#5) op

/-- `ARG` of an encoded CTRL word (30_encoding R116). -/
theorem ctrlArg_ctrlOf (op : BitVec 3) (arg : Byte) : ctrlArg (ctrlOf op arg) = arg := by
  refine BitVec.eq_of_toNat_eq ?_
  have hop := op.isLt
  have harg := arg.isLt
  simp only [ctrlArg, ctrlOf, BitVec.extractLsb'_toNat, toNat_append_eq_add, BitVec.toNat_ofNat,
    Nat.shiftRight_eq_div_pow]
  omega

/-- The bits of an encoded CTRL word: `OP` in [2:0], `ARG` in [15:8], every other bit 0 (30_encoding R116). -/
theorem ctrlOf_getLsbD (op : BitVec 3) (arg : Byte) (k : Nat) : (ctrlOf op arg).getLsbD k =
    if k < 3 then op.getLsbD k else if k < 8 then false else arg.getLsbD (k - 8) := by
  refine (BitVec.getLsbD_append (x := 0#16 ++ arg ++ 0#5) (y := op)).trans ?_
  rw [BitVec.getLsbD_append, BitVec.getLsbD_append]
  grind

/-- A CTRL word put together from its `OP` and `ARG` is the word less its ignored bits (30_encoding R116). -/
theorem ctrlOf_ctrlOp_ctrlArg (w : Word) : ctrlOf (ctrlOp w) (ctrlArg w) = w &&& 0x0000FF07#32 := by
  refine BitVec.eq_of_getLsbD_eq fun k hk => ?_
  rw [ctrlOf_getLsbD, BitVec.getLsbD_and]
  interval_cases k <;> simp [ctrlOp, ctrlArg]

/-- A host operation's word decodes to it (30_encoding R116). -/
theorem decodeCtrl_of_encode {i : Instr} {w : Word} (h : encode i = .ctrl w) : decodeCtrl w = .ok i := by
  cases i <;> cases h
  case readStatus n hi =>
    rw [decodeCtrl, ctrlOp_ctrlOf, ctrlArg_ctrlOf]
    exact congrArg₂ (fun a b => Except.ok (Instr.readStatus a b)) (extract_low_append hi n) (extract_high_append hi n)
  case clearFaults c0 c1 =>
    rw [decodeCtrl, ctrlOp_ctrlOf, ctrlArg_ctrlOf]
    exact congrArg₂ (fun a b => Except.ok (Instr.clearFaults a b)) (extract_low_append c1 c0) (extract_high_append c1 c0)
  all_goals simp [decodeCtrl, ctrlOp_ctrlOf, ctrlArg_ctrlOf]

/-- A word that decodes is, less its ignored bits, the encoding of its operation (30_encoding R116). -/
theorem encode_eq_of_decodeCtrl {w : Word} {i : Instr} (h : decodeCtrl w = .ok i) :
    encode i = .ctrl (w &&& 0x0000FF07#32) := by
  rw [← ctrlOf_ctrlOp_ctrlArg]
  unfold decodeCtrl at h
  split at h <;> cases h
  case h_1 hop => rw [encode, BitVec.eq_of_toNat_eq (y := 0#3) hop]
  case h_2 hop => rw [encode, BitVec.eq_of_toNat_eq (y := 1#3) hop]
  case h_3 hop => rw [encode, BitVec.eq_of_toNat_eq (y := 2#3) hop]
  case h_4 hop => rw [encode, BitVec.eq_of_toNat_eq (y := 3#3) hop]
  case h_5 hop => rw [encode, append_extract (m := 6) (n := 2), BitVec.eq_of_toNat_eq (y := 4#3) hop]
  case h_6 hop => rw [encode, append_extract (m := 4) (n := 4), BitVec.eq_of_toNat_eq (y := 5#3) hop]

/-- The lanes of a CTRL word, with anything behind them, decode as the word does (20_memory R82). -/
theorem decodeCtrlBytes_lanes {w : Word} {i : Instr} (h : decodeCtrl w = .ok i) (rest : List Byte) :
    decodeCtrlBytes ((Encoded.ctrl w).bytes ++ rest) = .ok (i, rest) := by
  simp only [Encoded.bytes, List.cons_append, List.nil_append, decodeCtrlBytes, wordOfLanes_lanes, h]

/-- Settles O2: the lanes make the word again, and the word decodes by its `OP` and `ARG`, which are all of it but the
ignored bits. -/
theorem ctrlDecodeEncodeAgree : Obligations.CtrlDecodeEncodeAgree := by
  refine ⟨fun i hframe => ?_, fun w i hdec => ?_⟩
  · obtain ⟨w, henc⟩ := encode_of_not_isFrame hframe
    exact ⟨w, henc, decodeCtrlBytes_lanes (decodeCtrl_of_encode henc)⟩
  · have henc := encode_eq_of_decodeCtrl hdec
    exact ⟨isFrame_of_encode_ctrl henc, henc⟩

/-- Settles O4: the decoders evaluated at the listed words. -/
theorem sampleWordsDecode : Obligations.SampleWordsDecode := by
  unfold Obligations.SampleWordsDecode
  decide

/-! ### The configuration frames -/

/-- A frame as a number: the class in the high digit (30_encoding R110). -/
theorem frameOf_eq_ofNat (opc pl : Nibble) : frameOf opc pl = BitVec.ofNat 8 (16 * opc.toNat + pl.toNat) := by
  refine BitVec.eq_of_toNat_eq ?_
  rw [frameOf, toNat_append_eq_add, BitVec.toNat_ofNat]
  omega

/-- The payload of MODE with the default bit numbers, as a number (30_encoding R114). -/
theorem modePayload_default_toNat (c : Word) : (modePayload Params.default c).toNat =
    8 * (c.toNat / 1024 % 2) + 2 * (c.toNat / 512 % 2) + c.toNat / 256 % 2 := by
  have hflags : (modePayload Params.default c).toNat =
      8 * (cfgDesatf c).toNat + 2 * (cfgFull c).toNat + (cfgLock c).toNat := by
    unfold modePayload
    generalize cfgDesatf c = desatf
    generalize cfgFull c = full
    generalize cfgLock c = lock
    revert desatf full lock
    decide
  simp only [hflags, cfgDesatf, cfgFull, cfgLock, BitVec.getLsbD, Nat.toNat_testBit, Nat.reducePow]

/-- A dead time is configured where the upper half of CFG0 is not 0 (10_state R28). -/
theorem cfgDeadtime_eq_zero_iff (c : Word) : cfgDeadtime c = 0#16 ↔ c.toNat / 65536 = 0 := by
  have hlt := c.isLt
  rw [← BitVec.toNat_inj, cfgDeadtime, BitVec.extractLsb'_toNat, Nat.shiftRight_eq_div_pow, BitVec.toNat_ofNat]
  omega

/-- The payload of DEADTIME, as a number (30_encoding R114). -/
theorem calPayload_toNat (c : Word) : (calPayload c).toNat = if c.toNat / 65536 = 0 then 0 else 1 := by
  simp only [calPayload, cfgDeadtime_eq_zero_iff]
  split_ifs <;> rfl

/-- A flag at a legal MODE bit number leaves bit 2 clear (30_encoding R113). -/
theorem flagNibble_bit2 (flag : Bool) {n : Nat} (hn : Params.modeBitOk n = true) :
    flagNibble flag <<< n &&& 0x4#4 = 0#4 := by
  simp only [Params.modeBitOk, Bool.or_eq_true, beq_iff_eq] at hn
  obtain (rfl | rfl) | rfl := hn <;> revert flag <;> decide

/-- Bit 2 stays clear where two payloads that have it clear are joined. -/
theorem or_bit2 : ∀ x y : Nibble, x &&& 0x4#4 = 0#4 → y &&& 0x4#4 = 0#4 → (x ||| y) &&& 0x4#4 = 0#4 := by decide

/-- A MODE payload keeps bit 2 clear where its three bit numbers are legal (30_encoding R113). -/
theorem modePayload_bit2 {p : Params} (c : Word) (hlock : Params.modeBitOk p.modeBitLock = true)
    (hfull : Params.modeBitOk p.modeBitFull = true) (hdesatf : Params.modeBitOk p.modeBitDesatf = true) :
    modePayload p c &&& 0x4#4 = 0#4 :=
  or_bit2 _ _ (or_bit2 _ _ (flagNibble_bit2 _ hdesatf) (flagNibble_bit2 _ hfull)) (flagNibble_bit2 _ hlock)

/-- DEADTIME's payload is the calibrate bit alone (30_encoding R113, R114). -/
theorem calPayload_high (c : Word) : calPayload c &&& 0xE#4 = 0#4 := by
  unfold calPayload
  split_ifs <;> decide

/-- Every configuration frame is a legal frame (30_encoding R113, 43_bringup_fsm R263). -/
theorem decodeFrame_of_mem_cfgFrames {p : Params} {c : Word} (hwf : p.wf = true) {b : Byte} (hb : b ∈ cfgFrames p c) :
    ∃ i, decodeFrame b = .ok i := by
  simp only [Params.wf, Bool.and_eq_true] at hwf
  obtain ⟨⟨⟨⟨⟨⟨-, hlock⟩, hfull⟩, hdesatf⟩, -⟩, -⟩, -⟩ := hwf
  simp only [cfgFrames, List.mem_cons, List.not_mem_nil, or_false] at hb
  obtain rfl | rfl | rfl | rfl := hb
  · exact ⟨.mask0 _, decodeFrame_of_encode rfl rfl⟩
  · exact ⟨.mask1 _, decodeFrame_of_encode rfl rfl⟩
  · exact ⟨.mode _, decodeFrame_of_encode (beq_iff_eq.mpr (modePayload_bit2 c hlock hfull hdesatf)) rfl⟩
  · exact ⟨.deadtime _, decodeFrame_of_encode (beq_iff_eq.mpr (calPayload_high c)) rfl⟩

/-- Settles O35: each frame is its class and its payload as a number; with legal bit numbers each is the encoding of a
well-formed instruction. -/
theorem cfgFramesFromCfg0 : Obligations.CfgFramesFromCfg0 := by
  refine ⟨fun c => ?_, fun p c hwf b hb => decodeFrame_of_mem_cfgFrames hwf hb⟩
  have hmask0 : (cfgMask0 c).toNat = c.toNat % 16 := by simp [cfgMask0, BitVec.extractLsb'_toNat]
  have hmask1 : (cfgMask1 c).toNat = c.toNat / 16 % 16 := by
    simp [cfgMask1, BitVec.extractLsb'_toNat, Nat.shiftRight_eq_div_pow]
  simp only [cfgFrames, frameOf_eq_ofNat, hmask0, hmask1, modePayload_default_toNat, calPayload_toNat, ← Nat.add_assoc]
  rfl

/-! ### The dead-time code -/

/-- At 17 MHz a tick is 1000/17 ns (42_command_codec R219). -/
theorem dtDecode_17MHz (c : Nat) : dtDecode 17000000 c = (c : Rat) * 1000 / 17 := by
  unfold dtDecode
  push_cast
  ring

/-- Settles O43: the code is the nearest tick count, so 1000 times it is within 500 of `17 t`. -/
theorem deadTimeRoundTrip : Obligations.DeadTimeRoundTrip := by
  refine ⟨dtDecode_17MHz, fun t ht => ?_⟩
  obtain ⟨hlow, hhigh⟩ := dtEncode_17MHz_nearest (t := t) (by omega)
  have hlow' : (17 : Rat) * t < 1000 * dtEncode 17000000 t + 500 := by exact_mod_cast hlow
  have hhigh' : (1000 : Rat) * dtEncode 17000000 t ≤ 17 * t + 500 := by exact_mod_cast hhigh
  rw [dtDecode_17MHz]
  constructor <;> linarith

end Sys2Proof.Proofs
end

section
/-! SUPPORT. What one step can do, said once for every later proof: the outcome of a CTRL write by its OP, of a write to
another register, of a host access, and of a step. -/

namespace Sys2Proof.Proofs

open Sys2Proof.Machine Sys2Proof.Safety Sys2Proof.Claims

/-! ### The CTRL write -/

/-- The part of the operation `op` that a CTRL write runs after its event (44_host_operations R302 to R308). -/
def opBody (op : Nat) (arg : Byte) (u : State) : State :=
  match op with
  | 0 => u
  | 1 => initBody u
  | 2 => shutdownBody u
  | 3 => sendBody arg u
  | 4 => readStatusBody (arg.extractLsb' 0 2) (arg.extractLsb' 2 6) u
  | 5 => clearFaultsBody (arg.extractLsb' 0 4) (arg.extractLsb' 4 4) u
  | _ => finish .invalidArgument u

/-- OP 6 and 7 have no part but their end (44_host_operations R308). -/
theorem opBody_of_reserved {op : Nat} (h : 6 ≤ op) (arg : Byte) : opBody op arg = finish .invalidArgument := by
  funext u
  unfold opBody
  split
  case h_7 => rfl
  all_goals omega

/-- Every CTRL write, reserved OP or not, answers a next state: it is accepted with its OP, its ARG and the part of the
operation OP names (44_host_operations R300, R308). -/
theorem ctrlWrite_eq (w : Word) (s : State) :
    ctrlWrite w s = .next (acceptCtrl (ctrlOp w) (ctrlArg w) (opBody (ctrlOp w).toNat (ctrlArg w)) s) := by
  by_cases hop : 6 ≤ (ctrlOp w).toNat
  · rw [ctrlWrite_of_reserved (by rwa [← ctrlOp_toNat]), opBody_of_reserved hop]
    rfl
  · obtain ⟨i, hdec⟩ : ∃ i, decodeCtrl w = .ok i := by
      unfold decodeCtrl
      split
      case h_7 => grind
      all_goals exact ⟨_, rfl⟩
    have hctrl : ctrlWrite w s = exec i s := by rw [ctrlWrite, hdec]
    rw [hctrl]
    unfold decodeCtrl at hdec
    split at hdec <;> cases hdec
    case h_1 hop => rw [BitVec.eq_of_toNat_eq (y := 0#3) hop]; rfl
    case h_2 hop => rw [BitVec.eq_of_toNat_eq (y := 1#3) hop]; rfl
    case h_3 hop => rw [BitVec.eq_of_toNat_eq (y := 2#3) hop]; rfl
    case h_4 hop => rw [BitVec.eq_of_toNat_eq (y := 3#3) hop]; rfl
    case h_5 hop =>
      rw [exec, execReadStatus, append_extract (m := 6) (n := 2), BitVec.eq_of_toNat_eq (y := 4#3) hop]
      rfl
    case h_6 hop =>
      rw [exec, execClearFaults, append_extract (m := 4) (n := 4), BitVec.eq_of_toNat_eq (y := 5#3) hop]
      rfl

/-- What an operation's own part does, by its OP (44_host_operations R302 to R308). -/
inductive OpEffect (op : Nat) (u : State) : State → Prop where
  | nop (hop : op = 0) : OpEffect op u u
  | init (hop : op = 1) : OpEffect op u (initBody u)
  | shutdown (hop : op = 2) : OpEffect op u (shutdownBody u)
  | refused (hop : 3 ≤ op) (code : StatusCode) (hcode : code = .fail ∨ code = .invalidArgument) :
      OpEffect op u (finish code u)
  | started (hlow : 3 ≤ op) (hhigh : op ≤ 5) (frames : List Byte) (hactive : u.stat.state = .active)
      (hne : frames ≠ []) (hservice : serviceFrames frames = true) : OpEffect op u (startHostFrames frames u)

/-- The frames of READ_STATUS are NULL frames (44_host_operations R306). -/
theorem serviceFrames_readStatus : ∀ n, serviceFrames (readStatusFrames n) = true := by decide

/-- The frames of CLEAR_FAULTS are CLINT frames (44_host_operations R307). -/
theorem serviceFrames_clearFaults (c0 c1 : Nibble) : serviceFrames (clearFaultsFrames c0 c1) = true := by
  have h0 : ∀ c : Nibble, sendAccepts (frameOf opcClint0 c) = true := by decide
  have h1 : ∀ c : Nibble, sendAccepts (frameOf opcClint1 c) = true := by decide
  simp [serviceFrames, clearFaultsFrames, h0, h1]

theorem opEffect_sendBody {op : Nat} (hlow : 3 ≤ op) (hhigh : op ≤ 5) (b : Byte) (u : State) :
    OpEffect op u (sendBody b u) := by
  unfold sendBody onlyActive
  split_ifs with hactive haccept
  · exact .started hlow hhigh [b] hactive (by simp) (by simpa [serviceFrames] using haccept)
  · exact .refused hlow _ (.inr rfl)
  · exact .refused hlow _ (.inl rfl)

theorem opEffect_readStatusBody {op : Nat} (hlow : 3 ≤ op) (hhigh : op ≤ 5) (n : BitVec 2) (hi : BitVec 6) (u : State) :
    OpEffect op u (readStatusBody n hi u) := by
  unfold readStatusBody onlyActive
  split_ifs with hactive hzero
  · exact .started hlow hhigh _ hactive (by simp [readStatusFrames]) (serviceFrames_readStatus n)
  · exact .refused hlow _ (.inr rfl)
  · exact .refused hlow _ (.inl rfl)

theorem opEffect_clearFaultsBody {op : Nat} (hlow : 3 ≤ op) (hhigh : op ≤ 5) (c0 c1 : Nibble) (u : State) :
    OpEffect op u (clearFaultsBody c0 c1 u) := by
  unfold clearFaultsBody onlyActive
  split_ifs with hactive
  · exact .started hlow hhigh _ hactive (by simp [clearFaultsFrames]) (serviceFrames_clearFaults c0 c1)
  · exact .refused hlow _ (.inl rfl)

/-- The part of an operation has that operation's effect (44_host_operations R302 to R308). -/
theorem opEffect_opBody (op : Nat) (arg : Byte) (u : State) : OpEffect op u (opBody op arg u) := by
  unfold opBody
  split
  case h_1 => exact .nop rfl
  case h_2 => exact .init rfl
  case h_3 => exact .shutdown rfl
  case h_4 => exact opEffect_sendBody (by omega) (by omega) _ u
  case h_5 => exact opEffect_readStatusBody (by omega) (by omega) _ _ u
  case h_6 => exact opEffect_clearFaultsBody (by omega) (by omega) _ _ u
  case h_7 => exact .refused (by grind) _ (.inr rfl)

/-! ### The writes that run no operation -/

/-- What a write does that runs no operation: one to a register other than CTRL, or one to CTRL that is lost (20_memory
R89, 10_state R24, 44_host_operations R301, R310). -/
inductive WriteEffect (off : Nat) (v : Word) (u : State) : State → Prop where
  | ignored : WriteEffect off v u u
  | stat (hoff : off = 0x04) : WriteEffect off v u (statWrite v u)
  | lost (hoff : off = 0x00 ∨ off = 0x0C ∨ off = 0x10) (hbusy : u.stat.busy = true) : WriteEffect off v u (loseCommand u)
  | locked (hidle : u.stat.busy = false) : WriteEffect off v u { u with result := .readOnly }
  | cfg0 (hidle : u.stat.busy = false) (hfree : cfgUnlocked u = true) : WriteEffect off v u (storeCfg0 v u)
  | cfg1 (hidle : u.stat.busy = false) (hfree : cfgUnlocked u = true) : WriteEffect off v u { u with cfg1 := v }

/-- A configuration write is lost while busy, refused where locked, and else stores (44_host_operations R310). -/
theorem writeEffect_configWrite {off : Nat} {v : Word} {u : State} {store : State → State}
    (hoff : off = 0x0C ∨ off = 0x10)
    (hstore : u.stat.busy = false → cfgUnlocked u = true → WriteEffect off v u (store u)) :
    WriteEffect off v u (configWrite store u) := by
  cases hbusy : u.stat.busy with
  | true => rw [configWrite_busy hbusy]; exact .lost (.inr hoff) hbusy
  | false =>
    cases hfree : cfgUnlocked u with
    | true => rw [configWrite_unlocked hbusy hfree]; exact hstore hbusy hfree
    | false => rw [configWrite_locked hbusy hfree]; exact .locked hbusy

theorem writeEffect_writeReg (off : Nat) (v : Word) (u : State) : WriteEffect off v u (writeReg off v u) := by
  unfold writeReg
  split
  · exact .stat rfl
  · exact writeEffect_configWrite (.inl rfl) .cfg0
  · exact writeEffect_configWrite (store := fun t => { t with cfg1 := v }) (.inr rfl) .cfg1
  · exact .ignored

/-! ### The host's access -/

/-- What a host access does: it is answered on the bus and changes nothing, or it is a write that runs no operation, or
it is a CTRL write that is accepted (20_memory R80 to R89, 44_host_operations R300). -/
inductive HostEffect (a : HostAccess) (s : State) : State → Prop where
  | answered (r : BusResp) (hheld : s.env.rstN = false → r = s.bus ∨ r = .error) : HostEffect a s { s with bus := r }
  | written {t : State} (off : Nat) (w : Word) (hrst : s.env.rstN = true)
      (ha : a = .write (s.params.baseAddr + off) 4 w) (heffect : WriteEffect off w { s with bus := .written } t) :
      HostEffect a s t
  | accepted {t : State} (w : Word) (hrst : s.env.rstN = true) (ha : a = .write (s.params.baseAddr + 0x00) 4 w)
      (hidle : s.stat.busy = false)
      (heffect : OpEffect (w.toNat % 8) (record (.host (ctrlOp w) (ctrlArg w)) { s with bus := .written }) t) :
      HostEffect a s t

/-- A CTRL write is lost while BUSY = 1, and accepted else (44_host_operations R300, R301). -/
theorem hostEffect_ctrlWrite {a : HostAccess} {s : State} {w : Word} (hrst : s.env.rstN = true)
    (ha : a = .write (s.params.baseAddr + 0x00) 4 w) :
    ∃ t, ctrlWrite w { s with bus := .written } = .next t ∧ HostEffect a s t := by
  refine ⟨_, ctrlWrite_eq w _, ?_⟩
  cases hbusy : s.stat.busy with
  | true =>
    rw [acceptCtrl_busy (s := { s with bus := .written }) hbusy]
    exact .written 0x00 w hrst ha (.lost (.inl rfl) hbusy)
  | false =>
    rw [acceptCtrl_idle (s := { s with bus := .written }) hbusy, ctrlOp_toNat]
    exact .accepted w hrst ha hbusy (opEffect_opBody _ _ _)

/-- Every host access answers a next state (20_memory R80 to R89, 44_host_operations R308). -/
theorem hostMove_effect (a : HostAccess) (s : State) : ∃ t, hostMove a s = .next t ∧ HostEffect a s t := by
  unfold hostMove
  cases htarget : busTarget s.params.baseAddr a with
  | outside => exact ⟨s, rfl, .answered s.bus fun _ => .inl rfl⟩
  | error => exact ⟨_, rfl, .answered .error fun _ => .inr rfl⟩
  | read off => exact ⟨_, rfl, .answered _ fun hlow => .inr (by simp [hlow])⟩
  | write off w =>
    cases hrst : s.env.rstN with
    | false => exact ⟨_, rfl, .answered .error fun _ => .inr rfl⟩
    | true =>
      have ha := eq_write_of_busTarget htarget
      dsimp only
      rw [if_pos rfl]
      split
      · exact hostEffect_ctrlWrite hrst ha
      · exact ⟨_, rfl, .written off w hrst ha (writeEffect_writeReg off w _)⟩

/-! ### The step -/

/-- Taking the move touches the environment only. -/
theorem takeMove_eq (s : State) : takeMove s = { s with env := (takeMove s).env } := by
  unfold takeMove
  split <;> rfl

/-- Only the environment and the delay unit's counter differ: time does not go back, block reset is not begun and ends by
its own input only, and the host's accesses stay ended. -/
def Quiet (s t : State) : Prop :=
  ∃ (env : Env) (count phase : Nat),
    t = { s with env := env, seq.waitCount := count, seq.waitPhase := phase } ∧ s.env.now ≤ env.now ∧
    (env.rstN = s.env.rstN ∨ (nextMove s = .rst true ∧ env.rstN = true)) ∧
    (s.env.hostEnded = true → env.hostEnded = true)

/-- What a step does, said once: nothing but time, inputs and the delay counter; block reset; the host's access; the
sequencer's step of a label; the sequencer's transfer (20_memory R91, 43_bringup_fsm R250). -/
inductive StepEffect (s : State) : State → Prop where
  | quiet {t : State} (h : Quiet s t) : StepEffect s t
  | blockReset (hmove : nextMove s = .rst false) : StepEffect s (blockReset (takeMove s))
  | host {t : State} (a : HostAccess) (hmove : nextMove s = .host a) (hopen : s.env.hostEnded = false)
      (heffect : HostEffect a (takeMove s) t) : StepEffect s t
  | label (hsched : Scheduled s.seq.spc s) (hne : s.seq.spc ≠ .xXfer) : StepEffect s (labelStep (takeMove s))
  | frame (b : Byte) (i : Instr) (hsched : Scheduled .xXfer s) (hframe : currentFrame s = some b)
      (hdec : decodeFrame b = .ok i) : StepEffect s (sendFrame b (takeMove s))

/-- Taking the move and changing the environment further is quiet, where time and the inputs allow it. -/
theorem quiet_of_env {s : State} {env : Env} (hnow : s.env.now ≤ env.now)
    (hrst : env.rstN = s.env.rstN ∨ (nextMove s = .rst true ∧ env.rstN = true))
    (hend : s.env.hostEnded = true → env.hostEnded = true) : Quiet s { takeMove s with env := env } :=
  ⟨env, s.seq.waitCount, s.seq.waitPhase, by rw [takeMove_eq], hnow, hrst, hend⟩

theorem quiet_takeMove (s : State) : Quiet s (takeMove s) :=
  quiet_of_env (env := (takeMove s).env) (by simp) (.inl (by simp)) (by simp)

/-- A block-clock cycle is quiet (40_wait_service R153). -/
theorem quiet_delayTick (s : State) : Quiet s (delayTick (takeMove s)) := by
  have htick : ∃ count phase, delayTick (takeMove s) =
      { takeMove s with seq.waitCount := count, seq.waitPhase := phase } := by
    unfold delayTick
    split_ifs
    · exact ⟨_, _, rfl⟩
    · exact ⟨(takeMove s).seq.waitCount, _, rfl⟩
    · exact ⟨_, _, rfl⟩
  obtain ⟨count, phase, htick⟩ := htick
  refine ⟨(takeMove s).env, count, phase, ?_, by simp, .inl (by simp), by simp⟩
  rw [htick, takeMove_eq]

/-- Whatever a step that answers a next state did, it is one of the five effects. -/
theorem stepEffect_of_step {s t : State} (h : step s = .next t) : StepEffect s t := by
  cases hmove : nextMove s <;> rw [step_of_move hmove] at h
  case advance dt => cases h; exact .quiet (quiet_of_env (by simp) (.inl (by simp)) (by simp))
  case clock => cases h; exact .quiet (quiet_delayTick s)
  case sysclk hz => cases h; exact .quiet (quiet_of_env (by simp) (.inl (by simp)) (by simp))
  case pinmap ok => cases h; exact .quiet (quiet_of_env (by simp) (.inl (by simp)) (by simp))
  case hostEnds => cases h; exact .quiet (quiet_of_env (by simp) (.inl (by simp)) (by simp))
  case rst level =>
    cases h
    cases level with
    | true => exact .quiet (quiet_of_env (by simp) (.inr ⟨hmove, rfl⟩) (by simp))
    | false => exact .blockReset hmove
  case host a =>
    cases hend : s.env.hostEnded with
    | true =>
      rw [runMove, hostTurn_ended a (by simpa using hend)] at h
      cases h
      exact .quiet (quiet_takeMove s)
    | false =>
      obtain ⟨t', hhost, heffect⟩ := hostMove_effect a (takeMove s)
      rw [runMove, hostTurn_open a (by simpa using hend), hhost] at h
      cases h
      exact .host a hmove hend heffect
  case seq =>
    obtain ⟨-, rfl⟩ | ⟨hen, hspc, rfl⟩ | ⟨hen, hspc, b, i, hframe, hdec, hexec⟩ := seqMove_cases h
    · exact .quiet (quiet_takeMove s)
    · exact .label (scheduled_of_seqEnabled hmove hen) (by simpa using hspc)
    · rw [exec_frame (encode_of_decodeFrame hdec)] at hexec
      cases hexec
      rw [takeMove_seq] at hspc
      exact .frame b i (hspc ▸ scheduled_of_seqEnabled hmove hen) (by simpa [currentFrame] using hframe) hdec

/-- A step stops only at X_XFER: where a legal frame is in progress whenever it is scheduled, the step answers a next
state (20_memory R84). -/
theorem step_answers {s : State}
    (hframe : Scheduled .xXfer s → ∃ b i, currentFrame s = some b ∧ decodeFrame b = .ok i) :
    ∃ t, step s = .next t := by
  cases hmove : nextMove s
  case host a =>
    rw [step_of_move hmove, runMove]
    cases hend : (takeMove s).env.hostEnded with
    | true => exact ⟨_, hostTurn_ended a hend⟩
    | false =>
      obtain ⟨t, hhost, -⟩ := hostMove_effect a (takeMove s)
      exact ⟨t, (hostTurn_open a hend).trans hhost⟩
  case seq =>
    cases hen : seqEnabled (takeMove s) with
    | false => exact ⟨_, (step_of_move hmove).trans (seqMove_disabled hen)⟩
    | true =>
      have hsched := scheduled_of_seqEnabled hmove hen
      by_cases hspc : s.seq.spc = .xXfer
      · rw [hspc] at hsched
        obtain ⟨b, i, hcur, hdec⟩ := hframe hsched
        exact ⟨_, (step_of_xXfer hsched hcur hdec).trans (exec_frame (encode_of_decodeFrame hdec) _)⟩
      · exact ⟨_, (step_of_move hmove).trans (seqMove_label hen (by simpa using hspc))⟩
  all_goals exact ⟨_, step_of_move hmove⟩

/-- A host access that is a write of a register is `HostWrites`, and the move being taken first does not matter. -/
theorem hostWrites_of_effect {s : State} {a : HostAccess} {off : Nat} {w : Word} (hmove : nextMove s = .host a)
    (hopen : s.env.hostEnded = false) (hrst : (takeMove s).env.rstN = true)
    (ha : a = .write ((takeMove s).params.baseAddr + off) 4 w) : HostWrites off w s := by
  rw [takeMove_params] at ha
  exact ⟨by rw [hmove, ha], by simpa using hrst, hopen⟩

end Sys2Proof.Proofs
end

section
/-! SUPPORT. The frames' requests and their frame (42_command_codec sections 2 and 3), the moves that are no operation, the
reads of the registers, and the calibration pulse. -/

namespace Sys2Proof.Proofs

open Sys2Proof.Machine Sys2Proof.Safety Sys2Proof.Claims

/-! ### A step runs the decoded instruction -/

/-- Settles O5: X_XFER has no wait, so the scheduled step is enabled. -/
theorem stepRunsDecodedFrame : Obligations.StepRunsDecodedFrame :=
  fun _ _ _ => step_of_xXfer

/-- A word that decodes runs its operation (44_host_operations R300). -/
theorem step_of_hostWrites_decoded {s : State} {w : Word} {i : Instr} (hwrite : HostWrites 0x00 w s)
    (hdec : decodeCtrl w = .ok i) : step s = exec i { takeMove s with bus := .written } := by
  rw [step_of_hostWrites_ctrl hwrite, ctrlWrite, hdec]

/-- Settles O6: the host's write of CTRL is `ctrlWrite`, which decodes. -/
theorem stepRunsDecodedCtrl : Obligations.StepRunsDecodedCtrl :=
  fun _ _ _ => step_of_hostWrites_decoded

/-! ### The ten frames -/

/-- `Req(tx)` of each frame's byte is the register the frame is said to request (42_command_codec R215). -/
theorem reqOf_of_frameSpec {i : Instr} {b : Byte} {q : Req} (h : frameSpec i = some (b, q)) : reqOf b = q := by
  cases i <;> cases h
  case mask0 p | mask1 p | mode p | clint0 p | clint1 p | deadtime p => revert p; decide
  all_goals rfl

/-- Settles O8: after the transfer PREV_REQ is `Req(tx)` of the frame's byte, or `Unknown`. -/
theorem framesRequestNext : Obligations.FramesRequestNext := by
  intro i b q hspec s
  refine ⟨sendFrame b s, exec_of_frameSpec hspec s, fun hres => ?_, fun hres => ?_⟩
  · rw [sendFrame_stat, transferWith_prevReq, if_pos hres, reqOf_of_frameSpec hspec]
  · rw [sendFrame_stat, transferWith_prevReq, if_neg hres]

/-- Taking the answer touches the plan of answers and the draws only. -/
theorem takeAnswer_eq (s : State) : takeAnswer s = { s with
    env := { s.env with answers := (takeAnswer s).env.answers, draws := (takeAnswer s).env.draws } } := by
  unfold takeAnswer
  split <;> rfl

/-- What the transfer step leaves unchanged (42_command_codec section 2). -/
theorem sendFrame_frame (b : Byte) (s : State) : sendFrame b s = { s with
    stat := { s.stat with
      prevReq := (sendFrame b s).stat.prevReq
      snapValid := (sendFrame b s).stat.snapValid
      retries := (sendFrame b s).stat.retries }
    status := (sendFrame b s).status
    lastXfer := (sendFrame b s).lastXfer
    trace := (sendFrame b s).trace
    seq := { s.seq with lastRes := (sendFrame b s).seq.lastRes, spc := (sendFrame b s).seq.spc }
    env := { s.env with answers := (sendFrame b s).env.answers, draws := (sendFrame b s).env.draws } } := by
  have hstat := transferWith_stat b (nextAnswer b s) (takeAnswer s)
  rw [takeAnswer_stat] at hstat
  rw [sendFrame_eq, transferWith_eq, hstat, takeAnswer_eq]

/-- Settles O9: each frame is the transfer step of its byte. -/
theorem framesLeaveTheRest : Obligations.FramesLeaveTheRest := by
  intro i hframe s
  obtain ⟨b, henc⟩ := encode_of_isFrame hframe
  exact ⟨sendFrame b s, exec_frame henc s, sendFrame_frame b s⟩

/-! ### Time, inputs and the delay unit -/

/-- While the counter is not 0 and the step of cycles is not full, a cycle only counts itself (40_wait_service R153). -/
theorem delayTick_within {s : State} (hcount : 0 < s.seq.waitCount)
    (hphase : s.seq.waitPhase + 1 < s.params.waitStepCycles) :
    delayTick s = { s with seq.waitPhase := s.seq.waitPhase + 1 } := by
  rw [delayTick, if_neg hcount.ne', if_pos hphase]

/-- The cycle that fills the step takes 1 from the counter (40_wait_service R153). -/
theorem delayTick_full {s : State} (hcount : 0 < s.seq.waitCount)
    (hphase : s.params.waitStepCycles ≤ s.seq.waitPhase + 1) :
    delayTick s = { s with seq.waitPhase := 0, seq.waitCount := s.seq.waitCount - 1 } := by
  rw [delayTick, if_neg hcount.ne', if_neg hphase.not_gt]

/-- A counter at 0 stays there (40_wait_service R153). -/
theorem delayTick_done {s : State} (hcount : s.seq.waitCount = 0) : delayTick s = s := by
  rw [delayTick, if_pos hcount]

/-- Settles O48: four moves are record updates; the clock's move is the delay unit's, with its counter at 0, within a
step of cycles, or at the end of one. -/
theorem inputsChangeOnlyThemselves : Obligations.InputsChangeOnlyThemselves := by
  refine ⟨fun dt s h => ?_, fun hz s h => step_of_move h, fun ok s h => step_of_move h, fun s h => step_of_move h,
    fun s h => ⟨delayTick (takeMove s), step_of_move h, ?_⟩⟩
  · rw [step_of_move h, runMove, takeMove_env_now]
  · obtain hzero | hpos := Nat.eq_zero_or_pos s.seq.waitCount
    · rw [delayTick_done (by simpa using hzero)]
      refine ⟨rfl, by simp, by simp, fun hpos => ?_, fun hpos => ?_⟩ <;> exact absurd hzero hpos.ne'
    · obtain hwithin | hfull := Nat.lt_or_ge (s.seq.waitPhase + 1) s.params.waitStepCycles
      · rw [delayTick_within (by simpa using hpos) (by simpa using hwithin)]
        simp [hwithin.not_ge]
      · rw [delayTick_full (by simpa using hpos) (by simpa using hfull)]
        refine ⟨rfl, ?_, ?_, fun _ hlt => absurd hlt hfull.not_gt, fun _ _ => ⟨?_, rfl⟩⟩ <;> simp <;> omega

/-! ### The reads -/

/-- A word is known by its number. -/
theorem word_eq_ofNat {w : Word} {n : Nat} (h : w.toNat = n) : w = BitVec.ofNat 32 n := by
  rw [← h, BitVec.ofNat_toNat, BitVec.setWidth_eq]

theorem resultWord_toNat (c : StatusCode) : (resultWord c).toNat = (statusCodeNum c).toNat := by
  rw [resultWord, toNat_append_eq_add]
  simp

theorem snapWord_toNat (f : StatusFile) :
    (snapWord f).toNat = f.r0.toNat + f.r1.toNat * 0x100 + f.r2.toNat * 0x10000 + f.r3.toNat * 0x1000000 := by
  simp only [snapWord, toNat_append_eq_add]
  omega

theorem lastXferWord_toNat (x : LastXfer) : (lastXferWord x).toNat =
    x.tx.toNat + x.rx.toNat * 0x100 + (resCode x.res).toNat * 0x10000 + x.valid.toNat * 0x80000 := by
  simp only [lastXferWord, toNat_append_eq_add, BitVec.toNat_ofBool, BitVec.toNat_ofNat]
  omega

/-- Each register but STAT reads as its number (10_state R22 to R32). -/
theorem readReg_of_readNumber {off v : Nat} {s : State} (h : readNumber s off = some v) :
    readReg off s = BitVec.ofNat 32 v ∧ off % 4 = 0 ∧ off < 0x20 := by
  unfold readNumber at h
  split at h <;> cases h <;> refine ⟨?_, by decide, by decide⟩
  case h_1 => rfl
  case h_2 => exact word_eq_ofNat (resultWord_toNat _)
  case h_3 => exact word_eq_ofNat rfl
  case h_4 => exact word_eq_ofNat rfl
  case h_5 => exact word_eq_ofNat (snapWord_toNat _)
  case h_6 => rfl
  case h_7 => exact word_eq_ofNat (lastXferWord_toNat _)

/-- What a register's number is made of, the move leaves. -/
theorem readNumber_takeMove (s : State) (off : Nat) : readNumber (takeMove s) off = readNumber s off := by
  simp [readNumber]

/-- Settles O39: a read puts the register's word on the bus; the four read-only registers have no write. -/
theorem readsReturnRegisters : Obligations.ReadsReturnRegisters := by
  refine ⟨fun off v s hread hnum => ?_, by decide, fun off v s hoff hwrite => ?_⟩
  · obtain ⟨hreg, halign, hlt⟩ := readReg_of_readNumber ((readNumber_takeMove s off).trans hnum)
    rw [step_of_hostReads hread halign hlt, hreg]
  · obtain rfl | rfl | rfl | rfl := hoff <;>
      exact step_of_hostWrites_register hwrite (by decide) (by decide) (by decide)

/-! ### The calibration pulse -/

theorem labelStep_of_bCalSel {s : State} (h : s.seq.spc = .bCalSel) : labelStep s = stepCalSel s := by
  rw [labelStep, h]

/-- With no dead time there is no pulse (43_bringup_fsm R264). -/
theorem stepCalSel_of_zero {s : State} (h : cfgDeadtime s.cfg0 = 0#16) : stepCalSel s = { s with seq.spc := .bDone } := by
  rw [stepCalSel, if_pos h, goto_of_no_wait rfl]

/-- With a dead time CS is selected and the wait begins (43_bringup_fsm R264). -/
theorem stepCalSel_of_nonzero {s : State} (h : cfgDeadtime s.cfg0 ≠ 0#16) :
    stepCalSel s = goto .bCalHold (line .cs true s) := by
  rw [stepCalSel, if_neg h]

theorem labelStep_of_bCalHold {s : State} (h : s.seq.spc = .bCalHold) : labelStep s = { s with
    lines.csSel := false
    trace := s.trace ++ [(s.env.now, .line .cs false)]
    seq.spc := .bDone } := by
  rw [labelStep, h]
  exact goto_of_no_wait rfl

/-- Settles O36: B_CAL_SEL's step by the dead time; at B_CAL_HOLD the invariant has WAIT_D at the length of the pulse. -/
theorem calibrationPulse : Obligations.CalibrationPulse := by
  refine ⟨fun s hsched hzero => ?_, fun s hsched hdt => ?_, fun s hinv hsched hearly => ?_,
    fun s hinv hsched hover => ?_⟩
  · rw [step_of_no_wait hsched rfl (by decide) labelStep_of_bCalSel, stepCalSel_of_zero (by simpa using hzero)]
  · have hstep := step_of_no_wait hsched rfl (by decide) labelStep_of_bCalSel
    rw [stepCalSel_of_nonzero (by simpa using hdt)] at hstep
    exact step_to_wait hstep (keepsRest_takeMove s) rfl (by simp [setLine]) (by simp) (by simp [Adds, stamped])
  · rw [← waitD_of_stateInv hinv hsched rfl] at hearly
    exact step_of_wait_early hsched rfl hearly
  · rw [← waitD_of_stateInv hinv hsched rfl] at hover
    rw [step_of_due ⟨hsched, hover⟩ rfl labelStep_of_bCalHold]
    simp

end Sys2Proof.Proofs
end

section
/-! SUPPORT. The host operations as they are accepted (44_host_operations R300 to R307): INIT's checks, the start of the
service operations, and what a CTRL write can end in. -/

namespace Sys2Proof.Proofs

open Sys2Proof.Machine Sys2Proof.Safety Sys2Proof.Claims

/-! ### INIT -/

/-- INIT is a CTRL write of `OP` 1 (44_host_operations R302). -/
theorem exec_init (arg : Byte) (s : State) : exec (.init arg) s = .next (acceptCtrl 1#3 arg initBody s) := rfl

/-- INIT whose checks pass starts the bring-up (44_host_operations R302). -/
theorem initBody_accepted {s : State} (hdt : (cfgDeadtime s.cfg0).toNat ≤ s.params.dtMaxNs)
    (hpin : s.env.pinmapOk = true) : initBody s = { s with
      stat.state := .poweredOff
      stat.busy := true
      seq.opKind := .bringup
      seq.spc := .bRstAssert
      trace := s.trace ++ [(s.env.now, .state .poweredOff)] } := by
  rw [initBody, if_neg hdt.not_gt, if_neg (by simp [hpin])]
  exact goto_of_no_wait rfl

/-- A dead time above the limit is a fault (44_host_operations R302). -/
theorem initBody_outOfRange {s : State} (hdt : s.params.dtMaxNs < (cfgDeadtime s.cfg0).toNat) :
    initBody s = raiseFault .outOfRange (setState .poweredOff s) := by
  rw [initBody, if_pos hdt]

/-- A wrong pin map is a fault, where the dead time is none (44_host_operations R302, 60_exceptions R347). -/
theorem initBody_badPinmap {s : State} (hdt : (cfgDeadtime s.cfg0).toNat ≤ s.params.dtMaxNs)
    (hpin : s.env.pinmapOk = false) : initBody s = raiseFault .invalidArgument (setState .poweredOff s) := by
  rw [initBody, if_neg hdt.not_gt, if_pos hpin]

/-- INIT starts the bring-up or raises one of its two faults (44_host_operations R302). -/
theorem initBody_cases (s : State) :
    ((cfgDeadtime s.cfg0).toNat ≤ s.params.dtMaxNs ∧ s.env.pinmapOk = true) ∨
    ∃ code, (code = .outOfRange ∨ code = .invalidArgument) ∧
      initBody s = raiseFault code (setState .poweredOff s) := by
  obtain hdt | hdt := Nat.lt_or_ge s.params.dtMaxNs (cfgDeadtime s.cfg0).toNat
  · exact .inr ⟨_, .inl rfl, initBody_outOfRange hdt⟩
  · cases hpin : s.env.pinmapOk with
    | true => exact .inl ⟨hdt, rfl⟩
    | false => exact .inr ⟨_, .inr rfl, initBody_badPinmap hdt hpin⟩

/-- Settles O15: INIT's own part after its event. -/
theorem initStartsBringUp : Obligations.InitStartsBringUp := by
  intro arg s hidle hdt hpin
  rw [exec_init, acceptCtrl_idle hidle, initBody_accepted (by simpa using hdt) (by simpa using hpin)]
  simp [record, stamped]

/-- Settles O16: the check that fails first raises its fault, with CS deselected. -/
theorem initChecksInOrder : Obligations.InitChecksInOrder := by
  intro arg s code hidle hcs hchecks
  have hbody : initBody (record (.host 1#3 arg) s) =
      raiseFault code (setState .poweredOff (record (.host 1#3 arg) s)) := by
    obtain ⟨hdt, rfl⟩ | ⟨hdt, hpin, rfl⟩ := hchecks
    · exact initBody_outOfRange (by simpa using hdt)
    · exact initBody_badPinmap (by simpa using hdt) (by simpa using hpin)
  rw [exec_init, acceptCtrl_idle hidle, hbody, raiseFault_of_deselected (by simpa using hcs)]
  simp [record, setState, stamped]

/-! ### The service operations -/

/-- SEND accepts exactly the allowed bytes (44_host_operations R305). -/
theorem sendAccepts_eq_sendAllowed : ∀ b, sendAccepts b = sendAllowed b := by decide

/-- The frames of READ_STATUS as bytes (44_host_operations R306). -/
theorem readStatusFrames_eq : ∀ n, readStatusFrames n = [n.setWidth 8, 0x00#8] := by decide

/-- The frames of CLEAR_FAULTS as bytes (44_host_operations R307). -/
theorem clearFaultsFrames_eq (c0 c1 : Nibble) :
    clearFaultsFrames c0 c1 = [0x60#8 ||| c0.setWidth 8, 0x70#8 ||| c1.setWidth 8] := by
  have h0 : ∀ c : Nibble, frameOf opcClint0 c = 0x60#8 ||| c.setWidth 8 := by decide
  have h1 : ∀ c : Nibble, frameOf opcClint1 c = 0x70#8 ||| c.setWidth 8 := by decide
  rw [clearFaultsFrames, h0, h1]

/-- An operation that starts its frames leaves its event, and the sequencer at X_SEL (44_host_operations R305 to R307). -/
theorem startHostFrames_record_host (frames : List Byte) (op : BitVec 3) (arg : Byte) (s : State) :
    startHostFrames frames (record (.host op arg) s) = { s with
      stat.busy := true
      seq.opList := frames, seq.opIdx := 0, seq.attempt := 0, seq.opKind := .hostop, seq.spc := .xSel
      trace := s.trace ++ stamped s.env.now [.host op arg] } := by
  rw [startHostFrames_eq]
  rfl

/-- Outside `Active` a service operation ends with `Fail` (44_host_operations R305 to R307). -/
theorem acceptCtrl_onlyActive_other {op : BitVec 3} {arg : Byte} {body : State → State} {s : State}
    (hidle : s.stat.busy = false) (hstate : s.stat.state ≠ .active) :
    acceptCtrl op arg (onlyActive body) s = finish .fail (record (.host op arg) s) := by
  rw [acceptCtrl_idle hidle, onlyActive_other (by simpa using hstate)]

/-- In `Active` a service operation runs its body after its event (44_host_operations R305 to R307). -/
theorem acceptCtrl_onlyActive_active {op : BitVec 3} {arg : Byte} {body : State → State} {s : State}
    (hidle : s.stat.busy = false) (hstate : s.stat.state = .active) :
    acceptCtrl op arg (onlyActive body) s = body (record (.host op arg) s) := by
  rw [acceptCtrl_idle hidle, onlyActive_active (by simpa using hstate)]

/-- Settles O18: the state check, then the frame check. -/
theorem sendStartsOrRefuses : Obligations.SendStartsOrRefuses := by
  refine fun b s hidle => ⟨fun hstate => ?_, fun hstate hallow => ?_, fun hstate hallow => ?_⟩
  · exact congrArg _ ((acceptCtrl_onlyActive_other hidle hstate).trans (finish_record_host ..))
  · refine congrArg _ ((acceptCtrl_onlyActive_active hidle hstate).trans ?_)
    dsimp only
    rw [sendAccepts_eq_sendAllowed, if_pos hallow, startHostFrames_record_host]
  · refine congrArg _ ((acceptCtrl_onlyActive_active hidle hstate).trans ?_)
    dsimp only
    rw [sendAccepts_eq_sendAllowed, if_neg (by simp [hallow]), finish_record_host]

/-- Settles O19: the state check, then ARG[7:2]. -/
theorem readStatusStartsOrRefuses : Obligations.ReadStatusStartsOrRefuses := by
  refine fun n hi s hidle => ⟨fun hstate => ?_, fun hstate hzero => ?_, fun hstate hzero => ?_⟩
  · exact congrArg _ ((acceptCtrl_onlyActive_other hidle hstate).trans (finish_record_host ..))
  · refine congrArg _ ((acceptCtrl_onlyActive_active hidle hstate).trans ?_)
    dsimp only
    rw [if_pos hzero, startHostFrames_record_host, readStatusFrames_eq]
  · refine congrArg _ ((acceptCtrl_onlyActive_active hidle hstate).trans ?_)
    dsimp only
    rw [if_neg hzero, finish_record_host]

/-- Settles O20: the state check alone. -/
theorem clearFaultsStartsOrRefuses : Obligations.ClearFaultsStartsOrRefuses := by
  refine fun c0 c1 s hidle => ⟨fun hstate => ?_, fun hstate => ?_⟩
  · exact congrArg _ ((acceptCtrl_onlyActive_other hidle hstate).trans (finish_record_host ..))
  · refine congrArg _ ((acceptCtrl_onlyActive_active hidle hstate).trans ?_)
    rw [startHostFrames_record_host, clearFaultsFrames_eq]

/-! ### The CTRL write while BUSY = 0 -/

/-- The ignored bits of a CTRL word reach neither its OP nor its ARG (30_encoding R116). -/
theorem ctrlWrite_ignores (w : Word) (s : State) : ctrlWrite w s = ctrlWrite (w &&& 0x0000FF07#32) s := by
  rw [← ctrlOf_ctrlOp_ctrlArg, ctrlWrite_eq, ctrlWrite_eq, ctrlOp_ctrlOf, ctrlArg_ctrlOf]

/-- How an accepted operation can leave the sequencer: untouched, at its end with `Done` last, or at its first label
(44_host_operations R300). The events are those after `Host`. -/
def AcceptedEnd (op : Nat) (u t : State) (es : List Event) : Prop :=
  (op = 0 ∧ t = u ∧ es = []) ∨
  (op ≠ 0 ∧ t.stat.busy = false ∧ t.seq.spc = .idle ∧ ∃ before, es = before ++ [.done t.result]) ∨
  (t.stat.busy = true ∧ t.result = u.result ∧
    ((op = 1 ∧ t.seq.spc = .bRstAssert ∧ t.seq.opKind = .bringup) ∨
     (3 ≤ op ∧ op ≤ 5 ∧ t.seq.spc = .xSel ∧ t.seq.opKind = .hostop)))

theorem acceptedEnd_initBody (u : State) : ∃ es, Adds es u (initBody u) ∧ AcceptedEnd 1 u (initBody u) es := by
  obtain ⟨hdt, hpin⟩ | ⟨code, -, hfault⟩ := initBody_cases u
  · rw [initBody_accepted hdt hpin]
    exact ⟨[.state .poweredOff], rfl, .inr (.inr ⟨rfl, rfl, .inl ⟨rfl, rfl, rfl⟩⟩)⟩
  · rw [hfault]
    cases hcs : u.lines.csSel with
    | true =>
      rw [raiseFault_of_selected (by simpa using hcs)]
      exact ⟨[.state .poweredOff, .line .cs false, .state .faulted, .done code], by simp [Adds, stamped],
        .inr (.inl ⟨by decide, rfl, rfl, [.state .poweredOff, .line .cs false, .state .faulted], rfl⟩)⟩
    | false =>
      rw [raiseFault_of_deselected (by simpa using hcs)]
      exact ⟨[.state .poweredOff, .state .faulted, .done code], by simp [Adds, stamped],
        .inr (.inl ⟨by decide, rfl, rfl, [.state .poweredOff, .state .faulted], rfl⟩)⟩

/-- Every accepted operation is left in one of the three ways (44_host_operations R300). -/
theorem acceptedEnd_of_opEffect {op : Nat} {u t : State} (h : OpEffect op u t) :
    ∃ es, Adds es u t ∧ AcceptedEnd op u t es := by
  cases h with
  | nop hop => exact ⟨[], by simp [Adds, stamped], .inl ⟨hop, rfl, rfl⟩⟩
  | init hop => rw [hop]; exact acceptedEnd_initBody u
  | shutdown hop =>
    rw [shutdownBody_eq]
    exact ⟨_, rfl, .inr (.inl ⟨by omega, rfl, rfl, [.line .rst true, .line .en1 false, .line .en2 false,
      .line .cs false, .line .ls false, .line .hs false, .state .poweredOff], rfl⟩)⟩
  | refused hop code hcode => exact ⟨[.done code], rfl, .inr (.inl ⟨by omega, rfl, rfl, [], rfl⟩)⟩
  | started hlow hhigh frames =>
    rw [startHostFrames_eq]
    exact ⟨[], by simp [Adds, stamped], .inr (.inr ⟨rfl, rfl, .inr ⟨hlow, hhigh, rfl, rfl⟩⟩)⟩

/-- A write that runs no operation leaves BUSY (44_host_operations R301, R310). -/
theorem busy_of_writeEffect {off : Nat} {v : Word} {u t : State} (h : WriteEffect off v u t) :
    t.stat.busy = u.stat.busy := by
  cases h with
  | cfg0 => rw [storeCfg0_eq]
  | _ => rfl

/-- The host's access ends no operation: while BUSY = 1 no CTRL write is accepted (44_host_operations R301). -/
theorem busy_of_hostEffect {a : HostAccess} {u t : State} (h : HostEffect a u t) (hbusy : u.stat.busy = true) :
    t.stat.busy = true := by
  cases h with
  | answered => exact hbusy
  | written off w hrst ha heffect => exact (busy_of_writeEffect heffect).trans hbusy
  | accepted w hrst ha hidle => simp [hbusy] at hidle

/-- An operation ends in a step of the sequencer only, block reset apart (44_host_operations R300). -/
theorem nextMove_of_busy_ends {s t : State} (hreset : NoBlockReset s) (hstep : step s = .next t)
    (hbusy : s.stat.busy = true) (hend : t.stat.busy = false) : nextMove s = .seq := by
  cases stepEffect_of_step hstep with
  | quiet hquiet =>
    obtain ⟨env, count, phase, rfl, -⟩ := hquiet
    simp [hbusy] at hend
  | blockReset hmove => exact absurd hmove hreset
  | host a hmove hopen heffect => simp [busy_of_hostEffect heffect (by simpa using hbusy)] at hend
  | label hsched => exact hsched.1
  | frame b i hsched => exact hsched.1

/-- Settles O13: an accepted write records its event and runs the operation's own part, left in one of three ways; the
ignored bits reach nothing; no host access ends an operation. -/
theorem idleCtrlWriteAccepted : Obligations.IdleCtrlWriteAccepted := by
  refine ⟨fun w s hwrite hidle => ?_, fun w i s hwrite _ => step_of_hostWrites_decoded hwrite, ctrlWrite_ignores,
    fun s t => nextMove_of_busy_ends⟩
  have hstep := step_of_hostWrites_ctrl hwrite
  rw [ctrlWrite_eq, acceptCtrl_idle (by simpa using hidle)] at hstep
  obtain ⟨es, hadds, hended⟩ := acceptedEnd_of_opEffect
    (opEffect_opBody (ctrlOp w).toNat (ctrlArg w) (record (.host (ctrlOp w) (ctrlArg w)) { takeMove s with bus := .written }))
  rw [ctrlOp_toNat] at hended
  refine ⟨_, es, hstep, ?_, ?_⟩
  · rw [Adds, hadds]
    simp [stamped, ctrlOp, ctrlArg]
  · rw [ctrlOp_toNat]
    obtain ⟨hop, ht, hes⟩ | hdone | ⟨hbusy, hresult, hlabel⟩ := hended
    · exact .inl ⟨hop, by rw [ht]; rfl, hes⟩
    · exact .inr (.inl hdone)
    · exact .inr (.inr ⟨hbusy, by simpa using hresult, hlabel⟩)

/-! ### Noninterference of the host while an operation runs -/

/-- While BUSY = 1 a host access reaches CMD_LOST and the bus only (44_host_operations R301, R310). -/
theorem hostEffect_busy {a : HostAccess} {u t : State} (h : HostEffect a u t) (hbusy : u.stat.busy = true) :
    t = { u with bus := t.bus, stat.cmdLost := t.stat.cmdLost } := by
  cases h with
  | answered => rfl
  | accepted w hrst ha hidle => simp [hbusy] at hidle
  | written off w hrst ha heffect =>
    cases heffect with
    | ignored | stat | lost => rfl
    | locked hidle | cfg0 hidle | cfg1 hidle => simp [hbusy] at hidle

/-- Settles O57: the access has one of the effects of a host access while BUSY = 1; after its last access the host has
none. -/
theorem hostCannotDisturbOperation : Obligations.HostCannotDisturbOperation := by
  intro s a hmove hbusy
  rw [step_of_move hmove, runMove]
  cases hend : (takeMove s).env.hostEnded with
  | true => exact ⟨takeMove s, hostTurn_ended a hend, rfl⟩
  | false =>
    obtain ⟨t, hhost, heffect⟩ := hostMove_effect a (takeMove s)
    exact ⟨t, (hostTurn_open a hend).trans hhost, hostEffect_busy heffect (by simpa using hbusy)⟩

end Sys2Proof.Proofs
end

section
/-! SUPPORT. What the steps of an operation have in common: they keep the configuration and CMD_LOST, they keep the pipeline
or forget the device, and the events they add account for the lines and for STATE (20_memory R97). -/

namespace Sys2Proof.Proofs

open Sys2Proof.Machine Sys2Proof.Safety Sys2Proof.Claims

/-! ### Events that account for the lines and for STATE -/

theorem replayLines_append (es fs : List Event) (b : Lines) :
    replayLines (es ++ fs) b = replayLines fs (replayLines es b) := by
  induction es generalizing b with
  | nil => rfl
  | cons e es ih => cases e <;> exact ih _

theorem replayState_append (es fs : List Event) (st : PdcState) :
    replayState (es ++ fs) st = replayState fs (replayState es st) := by
  induction es generalizing st with
  | nil => rfl
  | cons e es ih => cases e <;> exact ih _

/-- `t`'s trace is `s`'s with events added at the time of `s`, which replayed over the lines and STATE of `s` give those
of `t`. -/
def Explains (s t : State) : Prop :=
  ∃ es, Adds es s t ∧ t.lines = replayLines es s.lines ∧ t.stat.state = replayState es s.stat.state

/-- Where trace, lines and STATE stay, there is nothing to account for. -/
theorem explains_of_silent {s t : State} (htrace : t.trace = s.trace) (hlines : t.lines = s.lines)
    (hstate : t.stat.state = s.stat.state) : Explains s t :=
  ⟨[], by simpa [Adds, stamped] using htrace, hlines, hstate⟩

/-- Accounts at one time add up. -/
theorem explains_trans {s t u : State} (hst : Explains s t) (hnow : t.env.now = s.env.now) (htu : Explains t u) :
    Explains s u := by
  obtain ⟨es, hes, hlines, hstate⟩ := hst
  obtain ⟨fs, hfs, hlines', hstate'⟩ := htu
  refine ⟨es ++ fs, ?_, ?_, ?_⟩
  · rw [Adds, hfs, hes, hnow]
    simp [stamped]
  · rw [hlines', hlines, replayLines_append]
  · rw [hstate', hstate, replayState_append]

/-- The account does not depend on the plan of moves. -/
theorem explains_of_takeMove {s t : State} (h : Explains (takeMove s) t) : Explains s t := by
  simpa [Explains, Adds] using h

/-! ### A part of an operation -/

/-- What every part of an operation keeps, and that its events account for what it changes. -/
structure Operates (s t : State) : Prop where
  cfg0 : t.cfg0 = s.cfg0
  cfg1 : t.cfg1 = s.cfg1
  cmdLost : t.stat.cmdLost = s.stat.cmdLost
  prevReq : t.stat.prevReq = s.stat.prevReq
  snapValid : t.stat.snapValid = s.stat.snapValid
  env : t.env = s.env
  params : t.params = s.params
  status : t.status = s.status
  explains : Explains s t

/-- A part of an operation that neither starts nor ends it (10_state R24, R27). -/
structure Works (s t : State) : Prop extends Operates s t where
  busy : t.stat.busy = s.stat.busy
  result : t.result = s.result

theorem operates_trans {s t u : State} (hst : Operates s t) (htu : Operates t u) : Operates s u where
  cfg0 := htu.cfg0.trans hst.cfg0
  cfg1 := htu.cfg1.trans hst.cfg1
  cmdLost := htu.cmdLost.trans hst.cmdLost
  prevReq := htu.prevReq.trans hst.prevReq
  snapValid := htu.snapValid.trans hst.snapValid
  env := htu.env.trans hst.env
  params := htu.params.trans hst.params
  status := htu.status.trans hst.status
  explains := explains_trans hst.explains (by rw [hst.env]) htu.explains

theorem works_trans {s t u : State} (hst : Works s t) (htu : Works t u) : Works s u where
  toOperates := operates_trans hst.toOperates htu.toOperates
  busy := htu.busy.trans hst.busy
  result := htu.result.trans hst.result

theorem works_refl (s : State) : Works s s :=
  ⟨⟨rfl, rfl, rfl, rfl, rfl, rfl, rfl, rfl, explains_of_silent rfl rfl rfl⟩, rfl, rfl⟩

theorem works_line (l : Line) (level : Bool) (s : State) : Works s (line l level s) :=
  ⟨⟨rfl, rfl, rfl, rfl, rfl, rfl, rfl, rfl, [.line l level], rfl, rfl, rfl⟩, rfl, rfl⟩

theorem works_setState (st : PdcState) (s : State) : Works s (setState st s) :=
  ⟨⟨rfl, rfl, rfl, rfl, rfl, rfl, rfl, rfl, [.state st], rfl, rfl, rfl⟩, rfl, rfl⟩

theorem works_record_host (op : BitVec 3) (arg : Byte) (s : State) : Works s (record (.host op arg) s) :=
  ⟨⟨rfl, rfl, rfl, rfl, rfl, rfl, rfl, rfl, [.host op arg], rfl, rfl, rfl⟩, rfl, rfl⟩

theorem works_deselectIfSelected (s : State) : Works s (deselectIfSelected s) := by
  unfold deselectIfSelected
  split_ifs
  · exact works_line .cs false s
  · exact works_refl s

theorem works_driveInactive (s : State) : Works s (driveInactive s) :=
  works_trans (works_trans (works_trans (works_trans (works_trans (works_line .rst true s) (works_line .en1 false _))
    (works_line .en2 false _)) (works_line .cs false _)) (works_line .ls false _)) (works_line .hs false _)

theorem operates_goto (l : Label) (s : State) : Operates s (goto l s) :=
  ⟨goto_cfg0 l s, goto_cfg1 l s, by rw [goto_stat], by rw [goto_stat], by rw [goto_stat], goto_env l s,
    goto_params l s, goto_status l s, explains_of_silent (goto_trace l s) (goto_lines l s) (by rw [goto_stat])⟩

theorem operates_finish (code : StatusCode) (s : State) : Operates s (finish code s) :=
  ⟨rfl, rfl, rfl, rfl, rfl, rfl, rfl, rfl, [.done code], rfl, rfl, rfl⟩

theorem operates_startHostFrames (frames : List Byte) (s : State) : Operates s (startHostFrames frames s) := by
  rw [startHostFrames_eq]
  exact ⟨rfl, rfl, rfl, rfl, rfl, rfl, rfl, rfl, explains_of_silent rfl rfl rfl⟩

/-! ### How a labelled step ends -/

/-- From `s` a part of the operation is done, and then the next label is set or the operation ends. -/
def Leads (s t : State) : Prop := ∃ u, Works s u ∧ ((∃ l, t = goto l u) ∨ ∃ code, t = finish code u)

theorem leads_goto {s u : State} (l : Label) (h : Works s u) : Leads s (goto l u) := ⟨u, h, .inl ⟨l, rfl⟩⟩

theorem leads_finish {s u : State} (code : StatusCode) (h : Works s u) : Leads s (finish code u) :=
  ⟨u, h, .inr ⟨code, rfl⟩⟩

theorem operates_of_leads {s t : State} (h : Leads s t) : Operates s t := by
  obtain ⟨u, hworks, ⟨l, rfl⟩ | ⟨code, rfl⟩⟩ := h
  · exact operates_trans hworks.toOperates (operates_goto l u)
  · exact operates_trans hworks.toOperates (operates_finish code u)

/-- The fault entry ends the operation (60_exceptions R343). -/
theorem leads_raiseFault (code : StatusCode) (s : State) : Leads s (raiseFault code s) := by
  have hfaultAt : Works s { s with stat.faultAt := s.stat.state } :=
    ⟨⟨rfl, rfl, rfl, rfl, rfl, rfl, rfl, rfl, explains_of_silent rfl rfl rfl⟩, rfl, rfl⟩
  exact leads_finish code
    (works_trans (works_trans hfaultAt (works_deselectIfSelected _)) (works_setState .faulted _))

theorem leads_stepXSel (s : State) : Leads s (stepXSel s) := by
  have hcounters : Works s { s with
      seq.attempt := s.seq.attempt + 1
      stat.retries := if s.seq.attempt + 1 = 1 then 0#4 else s.stat.retries
      stat.cfgStep := if s.seq.opKind = .bringup then BitVec.ofNat 2 s.seq.opIdx else s.stat.cfgStep } :=
    ⟨⟨rfl, rfl, rfl, rfl, rfl, rfl, rfl, rfl, explains_of_silent rfl rfl rfl⟩, rfl, rfl⟩
  exact leads_goto .xXfer (works_trans hcounters (works_line .cs true _))

theorem leads_stepXResult (s : State) : Leads s (stepXResult s) := by
  unfold stepXResult
  cases s.seq.lastRes with
  | success => exact leads_goto _ (works_refl s)
  | busy =>
    dsimp only
    split_ifs
    · exact leads_goto _ (works_refl s)
    · exact leads_raiseFault _ s
  | error | invalidArgument | timeout => exact leads_raiseFault _ s

theorem leads_stepXNext (s : State) : Leads s (stepXNext s) := by
  have hnext : Works s { s with seq.opIdx := s.seq.opIdx + 1, seq.attempt := 0 } :=
    ⟨⟨rfl, rfl, rfl, rfl, rfl, rfl, rfl, rfl, explains_of_silent rfl rfl rfl⟩, rfl, rfl⟩
  unfold stepXNext
  dsimp only
  split_ifs
  · exact leads_goto _ hnext
  · split <;> exact leads_goto _ hnext

/-- What B_HS_HOLD's step does before it goes to X_SEL (43_bringup_fsm R262). -/
def hsHeld (s : State) : State :=
  { setState .configuring (line .hs false s) with
    seq.opList := cfgFrames s.params s.cfg0, seq.opIdx := 0, seq.attempt := 0, seq.opKind := .bringup }

theorem works_hsHeld (s : State) : Works s (hsHeld s) := by
  have hframes : ∀ u : State, Works u { u with
      seq.opList := cfgFrames s.params s.cfg0, seq.opIdx := 0, seq.attempt := 0, seq.opKind := .bringup } :=
    fun u => ⟨⟨rfl, rfl, rfl, rfl, rfl, rfl, rfl, rfl, explains_of_silent rfl rfl rfl⟩, rfl, rfl⟩
  exact works_trans (works_trans (works_line .hs false s) (works_setState .configuring _)) (hframes _)

theorem leads_stepHsHold (s : State) : Leads s (stepHsHold s) := leads_goto .xSel (works_hsHeld s)

theorem leads_stepCalSel (s : State) : Leads s (stepCalSel s) := by
  unfold stepCalSel
  split_ifs
  · exact leads_goto _ (works_refl s)
  · exact leads_goto _ (works_line .cs true s)

/-- B_RST_ASSERT forgets the device, and is else a part of the operation (43_bringup_fsm R255). -/
theorem leads_stepRstAssert (s : State) : Leads (forgetDevice s) (stepRstAssert s) := by
  have hclear : ∀ u : State, Works u { u with stat.cfgStep := 0#2, stat.retries := 0#4 } :=
    fun u => ⟨⟨rfl, rfl, rfl, rfl, rfl, rfl, rfl, rfl, explains_of_silent rfl rfl rfl⟩, rfl, rfl⟩
  exact leads_goto .bRstWait
    (works_trans (works_trans (works_driveInactive (forgetDevice s)) (hclear _)) (works_setState .resetAsserted _))

/-- The label whose step does nothing is left as it is. -/
theorem leads_self {l : Label} {s : State} (hspc : s.seq.spc = l) (hwait : waitOf s.params s.cfg0 l = none) :
    Leads s s := by
  refine ⟨s, works_refl s, .inl ⟨l, ?_⟩⟩
  rw [goto_of_no_wait hwait, ← hspc]

/-- Every labelled step is a part of the operation that leads to the next label or to the end; B_RST_ASSERT forgets the
device first (43_bringup_fsm R253 to R266, 44_host_operations R309). -/
theorem labelStep_leads (s : State) :
    Leads s (labelStep s) ∨ (s.seq.spc = .bRstAssert ∧ Leads (forgetDevice s) (labelStep s)) := by
  unfold labelStep
  cases hspc : s.seq.spc
  case idle | xXfer => exact .inl (leads_self hspc rfl)
  case xSel => exact .inl (leads_stepXSel s)
  case xUnsel => exact .inl (leads_goto .xResult (works_line .cs false s))
  case xResult => exact .inl (leads_stepXResult s)
  case xBackoff => exact .inl (leads_goto .xSel (works_refl s))
  case xNext => exact .inl (leads_stepXNext s)
  case bRstAssert => exact .inr ⟨rfl, leads_stepRstAssert s⟩
  case bRstWait => exact .inl (leads_goto .bEn1 (works_trans (works_line .rst false s) (works_setState _ _)))
  case bEn1 => exact .inl (leads_goto .bEn2 (works_line .en1 true s))
  case bEn2 => exact .inl (leads_goto .bEnWait (works_line .en2 true s))
  case bEnWait => exact .inl (leads_goto .bLsHold (works_trans (works_setState _ s) (works_line .ls true _)))
  case bLsHold =>
    exact .inl (leads_goto .bHsHold
      (works_trans (works_trans (works_line .ls false s) (works_setState _ _)) (works_line .hs true _)))
  case bHsHold => exact .inl (leads_stepHsHold s)
  case bCalSel => exact .inl (leads_stepCalSel s)
  case bCalHold => exact .inl (leads_goto .bDone (works_line .cs false s))
  case bDone => exact .inl (leads_finish .success (works_setState .active s))
  case hDone => exact .inl (leads_finish .success (works_refl s))

/-! ### The parts that forget the device -/

/-- A part of an operation, which forgets the device first in the one case `forgets` (10_state R39). -/
def Acts (forgets : Prop) (s t : State) : Prop :=
  Operates s t ∨ (forgets ∧ Operates (forgetDevice s) t)

/-- Forgetting the device touches neither the configuration, CMD_LOST, the lines nor STATE. -/
theorem kept_of_acts {p : Prop} {s t : State} (h : Acts p s t) :
    t.cfg0 = s.cfg0 ∧ t.cfg1 = s.cfg1 ∧ t.stat.cmdLost = s.stat.cmdLost ∧ Explains s t := by
  obtain h | ⟨-, h⟩ := h <;> exact ⟨h.cfg0, h.cfg1, h.cmdLost, h.explains⟩

/-- The pipeline is kept, or the device is forgotten. -/
theorem pipeline_of_acts {p : Prop} {s t : State} (h : Acts p s t) :
    (t.stat.prevReq = s.stat.prevReq ∧ t.stat.snapValid = s.stat.snapValid) ∨
    (p ∧ t.stat.prevReq = .noReq ∧ t.stat.snapValid = 0#4) := by
  obtain h | ⟨hp, h⟩ := h
  · exact .inl ⟨h.prevReq, h.snapValid⟩
  · exact .inr ⟨hp, h.prevReq, h.snapValid⟩

theorem acts_labelStep (s : State) : Acts (s.seq.spc = .bRstAssert) s (labelStep s) :=
  (labelStep_leads s).imp operates_of_leads fun ⟨hspc, hleads⟩ => ⟨hspc, operates_of_leads hleads⟩

theorem operates_initBody (s : State) : Operates s (initBody s) := by
  obtain ⟨hdt, hpin⟩ | ⟨code, -, hfault⟩ := initBody_cases s
  · rw [initBody_accepted hdt hpin]
    exact ⟨rfl, rfl, rfl, rfl, rfl, rfl, rfl, rfl, [.state .poweredOff], rfl, rfl, rfl⟩
  · rw [hfault]
    exact operates_trans (works_setState .poweredOff s).toOperates (operates_of_leads (leads_raiseFault code _))

/-- SHUTDOWN forgets the device, and is else a part of an operation (44_host_operations R304). -/
theorem operates_shutdownBody (s : State) : Operates (forgetDevice s) (shutdownBody s) :=
  operates_of_leads (leads_finish .success
    (works_trans (works_driveInactive (forgetDevice s)) (works_setState .poweredOff _)))

/-- An operation's own part, after its event; only SHUTDOWN forgets the device (44_host_operations R302 to R308). -/
theorem acts_of_opEffect {op : Nat} {s t : State} (h : OpEffect op s t) : Acts (op = 2) s t := by
  cases h with
  | nop => exact .inl (works_refl s).toOperates
  | init => exact .inl (operates_initBody s)
  | shutdown hop => exact .inr ⟨hop, operates_shutdownBody s⟩
  | refused hop code => exact .inl (operates_finish code s)
  | started hlow hhigh frames => exact .inl (operates_startHostFrames frames s)

/-- An accepted write's event comes before the operation's own part (44_host_operations R300). -/
theorem acts_after_host_event {p : Prop} {op : BitVec 3} {arg : Byte} {s t : State}
    (h : Acts p (record (.host op arg) s) t) : Acts p s t := by
  obtain h | ⟨hp, h⟩ := h
  · exact .inl (operates_trans (works_record_host op arg s).toOperates h)
  · exact .inr ⟨hp, operates_trans (works_record_host op arg (forgetDevice s)).toOperates h⟩

/-! ### The transfer -/

theorem sendFrame_kept (b : Byte) (s : State) :
    (sendFrame b s).cfg0 = s.cfg0 ∧ (sendFrame b s).cfg1 = s.cfg1 ∧
    (sendFrame b s).stat.cmdLost = s.stat.cmdLost ∧ (sendFrame b s).stat.busy = s.stat.busy ∧
    (sendFrame b s).result = s.result ∧ (sendFrame b s).stat.state = s.stat.state := by
  rw [sendFrame_frame]
  exact ⟨rfl, rfl, rfl, rfl, rfl, rfl⟩

/-- A frame event accounts for no line and no STATE (20_memory R97). -/
theorem explains_sendFrame (b : Byte) (s : State) : Explains s (sendFrame b s) := by
  obtain ⟨-, -, -, -, -, hstate⟩ := sendFrame_kept b s
  exact ⟨[.frame b (nextAnswer b s).res (nextAnswer b s).rx], sendFrame_trace b s, sendFrame_lines b s, hstate⟩

/-! ### Rules of the whole machine -/

/-- The steps that forget the device: B_RST_ASSERT, and a SHUTDOWN that is accepted (10_state R39). -/
def ForgetsDevice (s : State) : Prop :=
  Scheduled .bRstAssert s ∨ (s.stat.busy = false ∧ ∃ w, HostWrites 0x00 w s ∧ w.toNat % 8 = 2)

/-- What every step keeps that is no write of a register and no block reset: the configuration and CMD_LOST; the pipeline,
where it neither forgets the device nor is a transfer; and its events account for what it changes. -/
structure StepKeeps (s t : State) : Prop where
  cfg0 : t.cfg0 = s.cfg0
  cfg1 : t.cfg1 = s.cfg1
  cmdLost : t.stat.cmdLost = s.stat.cmdLost
  pipeline : (t.stat.prevReq = s.stat.prevReq ∧ t.stat.snapValid = s.stat.snapValid) ∨
    (ForgetsDevice s ∧ t.stat.prevReq = .noReq ∧ t.stat.snapValid = 0#4) ∨ Scheduled .xXfer s
  explains : Explains s t

/-- What a part of an operation keeps after the move is taken, and the write answered on the bus, it keeps. -/
theorem stepKeeps_of_acts {p : Prop} {s t : State} {r : BusResp} (hp : p → ForgetsDevice s)
    (h : Acts p { takeMove s with bus := r } t) : StepKeeps s t := by
  obtain ⟨hcfg0, hcfg1, hlost, hexplains⟩ := kept_of_acts h
  refine ⟨by simpa using hcfg0, by simpa using hcfg1, by simpa using hlost, ?_, explains_of_takeMove hexplains⟩
  obtain ⟨hreq, hsnap⟩ | ⟨hforgets, hreq, hsnap⟩ := pipeline_of_acts h
  · exact .inl ⟨by simpa using hreq, by simpa using hsnap⟩
  · exact .inr (.inl ⟨hp hforgets, hreq, hsnap⟩)

/-- A step, block reset apart, keeps all that, or it is a host write that runs no operation. -/
theorem stepKeeps_or_write {s t : State} (hreset : NoBlockReset s) (hstep : step s = .next t) :
    StepKeeps s t ∨ ∃ off w, HostWrites off w s ∧ WriteEffect off w { takeMove s with bus := .written } t := by
  cases stepEffect_of_step hstep with
  | quiet hquiet =>
    obtain ⟨env, count, phase, rfl, -⟩ := hquiet
    exact .inl ⟨rfl, rfl, rfl, .inl ⟨rfl, rfl⟩, explains_of_silent rfl rfl rfl⟩
  | blockReset hmove => exact absurd hmove hreset
  | label hsched =>
    refine .inl (stepKeeps_of_acts (r := (takeMove s).bus) (fun hspc => ?_) (acts_labelStep (takeMove s)))
    rw [takeMove_seq] at hspc
    exact .inl (hspc ▸ hsched)
  | frame b i hsched =>
    obtain ⟨hcfg0, hcfg1, hlost, -⟩ := sendFrame_kept b (takeMove s)
    exact .inl ⟨by simpa using hcfg0, by simpa using hcfg1, by simpa using hlost, .inr (.inr hsched),
      explains_of_takeMove (explains_sendFrame b _)⟩
  | host a hmove hopen heffect =>
    cases heffect with
    | answered r =>
      exact .inl (stepKeeps_of_acts (p := False) False.elim (.inl (works_refl _).toOperates))
    | written off w hrst ha hwrite => exact .inr ⟨off, w, hostWrites_of_effect hmove hopen hrst ha, hwrite⟩
    | accepted w hrst ha hidle hop =>
      refine .inl (stepKeeps_of_acts (fun htwo => ?_) (acts_after_host_event (acts_of_opEffect hop)))
      exact .inr ⟨by simpa using hidle, w, hostWrites_of_effect hmove hopen hrst ha, htwo⟩

/-- CFG0's reserved bits are not stored (44_host_operations R310). -/
theorem cfg0Stored_reserved (v : Word) : (v &&& 0xFFFF0FFF#32) &&& 0x0000F000#32 = 0#32 := by
  rw [BitVec.and_assoc]
  exact BitVec.and_zero

/-- Settles O53: only a write that runs no operation can change the configuration, and it stores while unlocked only. -/
theorem configurationLocked : Obligations.ConfigurationLocked := by
  intro s t hreset hstep hchanged
  obtain hkeeps | ⟨off, w, -, hwrite⟩ := stepKeeps_or_write hreset hstep
  · exact absurd hchanged (by simp [hkeeps.cfg0, hkeeps.cfg1])
  · cases hwrite with
    | ignored | stat | lost | locked => simp [statWrite] at hchanged
    | cfg0 hidle hfree =>
      rw [storeCfg0_eq]
      exact ⟨by simpa using hidle, by simpa using (cfgUnlocked_iff _).mp hfree, fun _ => cfg0Stored_reserved w⟩
    | cfg1 hidle hfree =>
      exact ⟨by simpa using hidle, by simpa using (cfgUnlocked_iff _).mp hfree, fun hne => absurd (by simp) hne⟩

/-- A write to STAT that changes CMD_LOST clears it, and has bit 4 set (10_state R24). -/
theorem cmdLostAfter_ne {lost : Bool} {v : Word} (h : cmdLostAfter lost v ≠ lost) :
    cmdLostAfter lost v = false ∧ v.getLsbD 4 = true := by
  unfold cmdLostAfter at h ⊢
  generalize v.getLsbD 4 = bit at h ⊢
  revert lost bit
  decide

/-- Settles O58: only a write that runs no operation can change CMD_LOST: one that is lost sets it, one to STAT with bit 4
clears it. -/
theorem cmdLostIsSticky : Obligations.CmdLostIsSticky := by
  intro s t hreset hstep hchanged
  obtain hkeeps | ⟨off, w, hhost, hwrite⟩ := stepKeeps_or_write hreset hstep
  · exact absurd hkeeps.cmdLost hchanged
  · cases hwrite with
    | ignored | locked | cfg1 => simp at hchanged
    | cfg0 => simp [storeCfg0_eq] at hchanged
    | lost hoff hbusy => exact .inl ⟨rfl, by simpa using hbusy, off, w, hhost, hoff⟩
    | stat hoff =>
      subst hoff
      obtain ⟨hcleared, hbit⟩ := cmdLostAfter_ne (by simpa [statWrite] using hchanged)
      exact .inr ⟨by simpa [statWrite] using hcleared, w, hhost, hbit⟩

/-- Settles O11: no write that runs no operation reaches the pipeline; the status registers are kept by
`keepsReceived_of_step`. -/
theorem onlyTransfersWriteStatus : Obligations.OnlyTransfersWriteStatus := by
  intro s t hreset hstep hxfer
  obtain ⟨-, hstatus⟩ := keepsReceived_of_step hreset hstep hxfer
  refine ⟨hstatus, ?_⟩
  obtain hkeeps | ⟨off, w, -, hwrite⟩ := stepKeeps_or_write hreset hstep
  · obtain hkept | hforgets | hsched := hkeeps.pipeline
    · exact .inl hkept
    · exact .inr hforgets
    · exact absurd hsched hxfer
  · cases hwrite with
    | cfg0 => simp [storeCfg0_eq]
    | _ => simp [statWrite]

/-- Where CS is deselected, the event of a change of CS_POL accounts for the lines (44_host_operations R310). -/
theorem explains_storeCfg0 (v : Word) {s : State} (hcs : s.lines.csSel = false) : Explains s (storeCfg0 v s) := by
  unfold storeCfg0
  split_ifs
  · exact explains_of_silent rfl rfl rfl
  · exact ⟨[.line .cs false], rfl, (lines_deselected hcs).symm, rfl⟩

/-- Settles O55: every part of a step accounts for its lines and STATE; a change of CS_POL does because CS is deselected
while the sequencer is idle. -/
theorem traceExplainsLinesAndState : Obligations.TraceExplainsLinesAndState := by
  intro s t hinv hreset hstep
  obtain ⟨hfree, -, ⟨hcs, -⟩, -⟩ := hinv
  obtain hkeeps | ⟨off, w, -, hwrite⟩ := stepKeeps_or_write hreset hstep
  · exact hkeeps.explains
  · refine explains_of_takeMove (s := s) ?_
    cases hwrite with
    | cfg0 hidle =>
      have hidle' : s.stat.busy = false := by simpa using hidle
      refine explains_storeCfg0 w (s := { takeMove s with bus := .written }) ?_
      simpa [hfree.mp hidle', csLabel] using hcs
    | _ => exact explains_of_silent rfl rfl rfl

/-! ### The end of an operation -/

/-- A step of the operation that leads on either keeps BUSY and RESULT, or ends the operation with its code as the last
event (43_bringup_fsm R251). -/
theorem leads_keeps_or_ends {s t : State} (h : Leads s t) :
    (t.stat.busy = s.stat.busy ∧ t.result = s.result) ∨
    (t.stat.busy = false ∧ t.seq.spc = .idle ∧ ∃ es, Adds (es ++ [.done t.result]) s t) := by
  obtain ⟨u, hworks, ⟨l, rfl⟩ | ⟨code, rfl⟩⟩ := h
  · exact .inl ⟨by rw [goto_stat, hworks.busy], by rw [goto_result, hworks.result]⟩
  · obtain ⟨es, hadds, -⟩ := hworks.explains
    refine .inr ⟨rfl, rfl, es, ?_⟩
    rw [Adds, finish_trace, hadds, hworks.env]
    simp [stamped]

/-- From BUSY = 1 a step keeps BUSY and RESULT, or it is a labelled step that ends the operation with `Done` (60_exceptions
R349). -/
theorem busy_kept_or_done {s t : State} (hreset : NoBlockReset s) (hstep : step s = .next t)
    (hbusy : s.stat.busy = true) :
    (t.stat.busy = true ∧ t.result = s.result) ∨
    (t.stat.busy = false ∧ t.seq.spc = .idle ∧ ∃ es, Adds (es ++ [.done t.result]) s t) := by
  cases stepEffect_of_step hstep with
  | quiet hquiet =>
    obtain ⟨env, count, phase, rfl, -⟩ := hquiet
    exact .inl ⟨hbusy, rfl⟩
  | blockReset hmove => exact absurd hmove hreset
  | host a hmove hopen heffect =>
    have hsame := hostEffect_busy heffect (by simpa using hbusy)
    rw [hsame]
    exact .inl ⟨by simpa using hbusy, by simp⟩
  | frame b =>
    obtain ⟨-, -, -, hbusy', hresult, -⟩ := sendFrame_kept b (takeMove s)
    exact .inl ⟨by simpa [hbusy'] using hbusy, by simpa using hresult⟩
  | label =>
    obtain hleads | ⟨-, hleads⟩ := labelStep_leads (takeMove s) <;>
      simpa [Adds, hbusy] using leads_keeps_or_ends hleads

/-- A run that is over has no agent left but time, the inputs and the block clock (70_reset_and_hazards R397). -/
theorem quiet_of_runOver {s t : State} (hreset : NoBlockReset s) (hstep : step s = .next t) (hover : runOver s = true) :
    Quiet s t := by
  simp only [runOver, Bool.and_eq_true, Bool.not_eq_true'] at hover
  obtain ⟨hended, hidle⟩ := hover
  cases stepEffect_of_step hstep with
  | quiet hquiet => exact hquiet
  | blockReset hmove => exact absurd hmove hreset
  | host a hmove hopen => simp [hended] at hopen
  | label hsched | frame b i hsched =>
    obtain ⟨-, -, hbusy, -⟩ := hsched
    simp [hidle] at hbusy

/-- Settles O54: what ends an operation, and that a run that is over can only be quiet. -/
theorem completionIsSignalled : Obligations.CompletionIsSignalled := by
  refine ⟨fun s t => busy_kept_or_done, fun s t hreset hstep hover => ?_⟩
  obtain ⟨env, count, phase, rfl, -, -, hend⟩ := quiet_of_runOver hreset hstep hover
  simp only [runOver, Bool.and_eq_true, Bool.not_eq_true'] at hover ⊢
  obtain ⟨hended, hidle⟩ := hover
  exact ⟨⟨hend hended, hidle⟩, observe_congr rfl rfl rfl rfl rfl rfl rfl rfl rfl⟩

end Sys2Proof.Proofs
end

section
/-! SUPPORT. The invariant, taken apart: what a label asks of the lines, of the transfer procedure and of the registers, and
one rule each for a step that sets a label and for one that ends the operation. -/

namespace Sys2Proof.Proofs

open Sys2Proof.Machine Sys2Proof.Safety Sys2Proof.Claims

/-! ### The parts of the invariant -/

/-- The lines fit label `l` in STATE `st` (41_transport_and_lines R181, 43_bringup_fsm R255 to R262). -/
structure LinesFit (l : Label) (st : PdcState) (b : Lines) : Prop where
  cs : b.csSel = csLabel l
  ls : b.ls = true ↔ l = .bLsHold
  hs : b.hs = true ↔ l = .bHsHold
  en2 : b.en2 = true → b.en1 = true
  en1 : b.en1 = true → b.rstAsserted = false
  power : powerLinesOk l st b = true

/-- The frame list and the counters fit label `l` (43_bringup_fsm R253, R254). -/
structure TransferFits (l : Label) (s : State) : Prop where
  frames : isXferLabel l = true → s.seq.opIdx < s.seq.opList.length ∧
    (s.seq.opKind = .bringup → s.seq.opList = cfgFrames s.params s.cfg0) ∧
    (s.seq.opKind = .hostop → serviceFrames s.seq.opList = true)
  attempts : attemptOk s.params.busyRetryMax l s.seq.attempt = true
  retries : isXferLabel l = true → 1 ≤ s.seq.attempt →
    s.stat.retries.toNat = min 15 (busyCount l s.seq.attempt s.seq.lastRes)
  cfgStep : isXferLabel l = true → l ≠ .xSel → s.seq.opKind = .bringup → s.stat.cfgStep.toNat = s.seq.opIdx

/-- What holds whatever the label. -/
structure Standing (s : State) : Prop where
  registers : RegistersLegal s
  trace : TraceInOrder s
  params : ParamsLegal s

/-- All that label `l` asks, the wait apart. -/
structure Fits (l : Label) (s : State) : Prop where
  state : labelStateOk l s.seq.opKind s.stat.state = true
  lines : LinesFit l s.stat.state s.lines
  transfer : TransferFits l s
  standing : Standing s

theorem fits_of_stateInv {l : Label} {s : State} (hinv : StateInv s) (hspc : s.seq.spc = l) : Fits l s := by
  obtain ⟨-, hstate, ⟨hcs, hls, hhs⟩, ⟨hen2, hen1⟩, hpower, hframes, hattempts, hretries, hcfgStep, -, hregisters,
    htrace, -, hparams⟩ := hinv
  subst hspc
  exact ⟨hstate, ⟨hcs, hls, hhs, hen2, hen1, hpower⟩, ⟨hframes, hattempts, hretries, hcfgStep⟩,
    ⟨hregisters, htrace, hparams⟩⟩

/-- Out of block reset, a state that fits its label and its wait, idle exactly with BUSY = 0, meets the invariant. -/
theorem stateInv_of_fits {s : State} (hrst : s.env.rstN = true) (hfree : IdleMeansFree s) (hfits : Fits s.seq.spc s)
    (hwait : WaitFits s) : StateInv s := by
  obtain ⟨hstate, ⟨hcs, hls, hhs, hen2, hen1, hpower⟩, ⟨hframes, hattempts, hretries, hcfgStep⟩,
    ⟨hregisters, htrace, hparams⟩⟩ := hfits
  exact ⟨hfree, hstate, ⟨hcs, hls, hhs⟩, ⟨hen2, hen1⟩, hpower, hframes, hattempts, hretries, hcfgStep, hwait,
    hregisters, htrace, fun hlow => by simp [hrst] at hlow, hparams⟩

/-- Outside the transfer procedure the frame list and the counters are free. -/
theorem transferFits_of_other {l : Label} {s : State} (h : isXferLabel l = false) : TransferFits l s := by
  refine ⟨fun hx => ?_, ?_, fun hx => ?_, fun hx => ?_⟩
  case refine_2 => cases l <;> cases h <;> rfl
  all_goals simp [h] at hx

/-! ### The lines at each label -/

/-- The lines at each label of a running operation (43_bringup_fsm R255 to R262); B_RST_ASSERT, which is reached from any
state at rest, is the one label that has no levels of its own. -/
def levelsAt (l : Label) : Lines :=
  match l with
  | .idle | .bRstAssert | .bRstWait => Lines.reset
  | .bEn1 => { Lines.reset with rstAsserted := false }
  | .bEn2 => { Lines.reset with rstAsserted := false, en1 := true }
  | l => { rstAsserted := false, en1 := true, en2 := true, csSel := csLabel l,
           ls := l == .bLsHold, hs := l == .bHsHold }

/-- The levels of a label fit it, in every STATE. -/
theorem linesFit_levelsAt {l : Label} {st : PdcState} (hidle : l ≠ .idle) : LinesFit l st (levelsAt l) := by
  cases l
  case idle => exact absurd rfl hidle
  all_goals exact ⟨rfl, by decide, by decide, by decide, by decide, rfl⟩

/-- The lines that block reset and SHUTDOWN leave fit rest in `PoweredOff` (10_state R44, 44_host_operations R304). -/
theorem linesFit_reset : LinesFit .idle .poweredOff Lines.reset :=
  ⟨rfl, by decide, by decide, by decide, by decide, rfl⟩

/-- Lines that fit a label of a running operation are its levels. -/
theorem eq_levelsAt {l : Label} {st : PdcState} {b : Lines} (h : LinesFit l st b) (hidle : l ≠ .idle)
    (hassert : l ≠ .bRstAssert) : b = levelsAt l := by
  obtain ⟨hcs, hls, hhs, -, -, hpower⟩ := h
  obtain ⟨rst, en1, en2, cs, ls, hs⟩ := b
  cases l <;> simp_all [powerLinesOk, levelsAt, csLabel, Lines.reset]

/-- Lines that fit a label fit every label with the same levels. -/
theorem linesFit_of_same_levels {l l' : Label} {st st' : PdcState} {b : Lines} (h : LinesFit l st b) (hidle : l ≠ .idle)
    (hassert : l ≠ .bRstAssert) (hidle' : l' ≠ .idle) (hsame : levelsAt l = levelsAt l') : LinesFit l' st' b := by
  rw [eq_levelsAt h hidle hassert, hsame]
  exact linesFit_levelsAt hidle'

/-- At rest in `Active` the lines are those of a transfer about to begin. -/
theorem eq_levelsAt_of_active {b : Lines} (h : LinesFit .idle .active b) : b = levelsAt .xSel := by
  obtain ⟨hcs, hls, hhs, -, -, hpower⟩ := h
  obtain ⟨rst, en1, en2, cs, ls, hs⟩ := b
  simp_all [powerLinesOk, levelsAt, csLabel]

/-- Nothing is asked of RST, EN1 and EN2 at rest in `Faulted`, or before B_RST_ASSERT, but their order. -/
theorem linesFit_faulted {st : PdcState} {b : Lines} (h : LinesFit .idle st b) : LinesFit .idle .faulted b :=
  ⟨h.cs, h.ls, h.hs, h.en2, h.en1, rfl⟩

theorem linesFit_bRstAssert {st st' : PdcState} {b : Lines} (h : LinesFit .idle st b) : LinesFit .bRstAssert st' b :=
  ⟨h.cs, by simpa using h.ls, by simpa using h.hs, h.en2, h.en1, rfl⟩

/-! ### The trace in time order -/

/-- Events at the present time keep the trace in order (20_memory R97). -/
theorem traceSorted_append {now : Nat} {tr : List (Nat × Event)} (e : Event) (h : traceSorted now tr = true) :
    traceSorted now (tr ++ [(now, e)]) = true := by
  induction tr with
  | nil => simp [traceSorted]
  | cons x xs ih =>
    cases xs with
    | nil => simpa [traceSorted] using h
    | cons y ys =>
      simp only [traceSorted, List.cons_append, Bool.and_eq_true] at h ih ⊢
      exact ⟨h.1, ih h.2⟩

/-- The trace stays in order as time passes. -/
theorem traceSorted_of_le {now later : Nat} {tr : List (Nat × Event)} (hle : now ≤ later)
    (h : traceSorted now tr = true) : traceSorted later tr = true := by
  induction tr with
  | nil => rfl
  | cons x xs ih =>
    cases xs with
    | nil => simp only [traceSorted, decide_eq_true_eq] at h ⊢; omega
    | cons y ys =>
      simp only [traceSorted, Bool.and_eq_true] at h ih ⊢
      exact ⟨h.1, ih h.2⟩

/-! ### What holds whatever the label -/

theorem standing_line (l : Line) (level : Bool) {s : State} (h : Standing s) : Standing (line l level s) :=
  ⟨h.registers, traceSorted_append _ h.trace, h.params⟩

theorem standing_setState (st : PdcState) {s : State} (h : Standing s) : Standing (setState st s) :=
  ⟨h.registers, traceSorted_append _ h.trace, h.params⟩

theorem standing_forgetDevice {s : State} (h : Standing s) : Standing (forgetDevice s) := by
  obtain ⟨⟨hcfg0, hresult, hfaultAt, hfailed, hvalid, -⟩, htrace, hparams⟩ := h
  exact ⟨⟨hcfg0, hresult, hfaultAt, hfailed, hvalid, fun _ => rfl⟩, htrace, hparams⟩

theorem standing_driveInactive {s : State} (h : Standing s) : Standing (driveInactive s) :=
  standing_line _ _ (standing_line _ _ (standing_line _ _ (standing_line _ _ (standing_line _ _ (standing_line _ _ h)))))

/-! ### The two ends of a step -/

/-- A label that is gone to, its wait begun, meets the invariant where all else fits it (43_bringup_fsm R250). -/
theorem stateInv_goto {l : Label} {u : State} (hrst : u.env.rstN = true) (hbusy : u.stat.busy = true)
    (hidle : l ≠ .idle) (h : Fits l u) : StateInv (goto l u) := by
  obtain ⟨hstate, hlines, ⟨hframes, hattempts, hretries, hcfgStep⟩, ⟨hregisters, htrace, hparams⟩⟩ := h
  refine stateInv_of_fits (by simpa using hrst) (by simp [IdleMeansFree, hbusy, hidle]) ?_ ?_
  · rw [goto_seq_spc]
    exact ⟨by simpa using hstate, by simpa using hlines,
      ⟨by simpa using hframes, by simpa using hattempts, by simpa using hretries, by simpa using hcfgStep⟩,
      ⟨by simpa [RegistersLegal] using hregisters, by simpa [TraceInOrder] using htrace,
        by simpa [ParamsLegal] using hparams⟩⟩
  · intro d hd
    rw [goto_params, goto_cfg0, goto_seq_spc] at hd
    obtain ⟨hwaitD, hstart⟩ := goto_wait hd
    exact ⟨hwaitD, by rw [hstart, goto_env]⟩

/-- An operation that ends in a state at rest, its lines fitting it, meets the invariant (43_bringup_fsm R251). -/
theorem stateInv_finish {code : StatusCode} {u : State} (hrst : u.env.rstN = true)
    (hcode : code ≠ .noTransferInProgress) (hrest : restState u.stat.state = true)
    (hlines : LinesFit .idle u.stat.state u.lines) (h : Standing u) : StateInv (finish code u) := by
  obtain ⟨⟨hcfg0, -, hregisters⟩, htrace, hparams⟩ := h
  refine stateInv_of_fits hrst (by simp [IdleMeansFree]) ?_ (fun d hd => ?_)
  · exact ⟨hrest, hlines, transferFits_of_other rfl,
      ⟨⟨hcfg0, hcode, hregisters⟩, traceSorted_append _ htrace, hparams⟩⟩
  · cases hd

/-- The fault entry, in a state a fault is raised in and with CS deselected, meets the invariant (60_exceptions R343,
R346). -/
theorem stateInv_raiseFault {code : StatusCode} {u : State} (hrst : u.env.rstN = true)
    (hcode : code ≠ .noTransferInProgress)
    (hstate : u.stat.state = .poweredOff ∨ u.stat.state = .configuring ∨ u.stat.state = .active)
    (hlines : LinesFit .idle .faulted u.lines) (h : Standing u) : StateInv (raiseFault code u) := by
  obtain ⟨⟨hcfg0, hresult, -, hregisters⟩, htrace, hparams⟩ := h
  have hcs : u.lines.csSel = false := hlines.cs
  have hentry : Standing { u with stat.faultAt := u.stat.state } :=
    ⟨⟨hcfg0, hresult, hstate, hregisters⟩, htrace, hparams⟩
  have hsame : deselectIfSelected { u with stat.faultAt := u.stat.state } = { u with stat.faultAt := u.stat.state } := by
    simp [deselectIfSelected, hcs]
  rw [raiseFault, hsame]
  exact stateInv_finish hrst hcode rfl hlines (standing_setState _ hentry)

end Sys2Proof.Proofs
end

section
/-! SUPPORT. Every labelled step, and the transfer, keeps the invariant. -/

namespace Sys2Proof.Proofs

open Sys2Proof.Machine Sys2Proof.Safety Sys2Proof.Claims

variable {s : State}

/-! ### The transfer procedure -/

/-- The index of a configuration frame fits CFG_STEP (43_bringup_fsm R263). -/
theorem cfgStep_toNat_of_lt {n : Nat} (p : Params) (c : Word) (h : n < (cfgFrames p c).length) :
    (BitVec.ofNat 2 n).toNat = n := by
  rw [BitVec.toNat_ofNat]
  exact Nat.mod_eq_of_lt h

theorem stateInv_stepXSel (hinv : StateInv s) (hrst : s.env.rstN = true) (hbusy : s.stat.busy = true)
    (hspc : s.seq.spc = .xSel) : StateInv (stepXSel s) := by
  obtain ⟨hstate, hlines, ⟨hframes, hattempts, hretries, -⟩, hstanding⟩ := fits_of_stateInv hinv hspc
  obtain ⟨hidx, hbringup, hservice⟩ := hframes rfl
  simp only [attemptOk, decide_eq_true_eq] at hattempts
  refine stateInv_goto hrst hbusy (by decide) ⟨hstate, ?_, ⟨fun _ => ⟨hidx, hbringup, hservice⟩, ?_, fun _ _ => ?_, ?_⟩,
    standing_line .cs true ⟨hstanding.registers, hstanding.trace, hstanding.params⟩⟩
  · rw [selectDevice, line_lines, eq_levelsAt hlines (by decide) (by decide)]
    exact linesFit_levelsAt (l := .xXfer) (by decide)
  · simp only [attemptOk, selectDevice, line_seq, line_params]
    simpa using hattempts
  · simp only [selectDevice, line_seq, line_stat, busyCount]
    split_ifs with hfirst
    · simp [hfirst]
    · exact hretries rfl (by omega)
  · intro _ _ hkind
    simp only [selectDevice, line_seq, line_stat] at hkind ⊢
    rw [if_pos hkind]
    rw [hbringup hkind] at hidx
    exact cfgStep_toNat_of_lt _ _ hidx

theorem stateInv_stepXUnsel (hinv : StateInv s) (hrst : s.env.rstN = true) (hbusy : s.stat.busy = true)
    (hspc : s.seq.spc = .xUnsel) : StateInv (stepXUnsel s) := by
  obtain ⟨hstate, hlines, ⟨hframes, hattempts, hretries, hcfgStep⟩, hstanding⟩ := fits_of_stateInv hinv hspc
  refine stateInv_goto hrst hbusy (by decide) ⟨hstate, ?_,
    ⟨hframes, hattempts, hretries, fun hx _ => hcfgStep hx (by decide)⟩, standing_line .cs false hstanding⟩
  rw [unselectDevice, line_lines, eq_levelsAt hlines (by decide) (by decide)]
  exact linesFit_levelsAt (l := .xResult) (by decide)

/-- The transfer procedure's fault is raised in `Configuring` or `Active`, with CS deselected (60_exceptions R346). -/
theorem stateInv_raiseFault_xResult {code : StatusCode} (hcode : code ≠ .noTransferInProgress)
    (hrst : s.env.rstN = true) (h : Fits .xResult s) : StateInv (raiseFault code s) := by
  obtain ⟨hstate, hlines, -, hstanding⟩ := h
  refine stateInv_raiseFault hrst hcode (.inr ?_) ?_ hstanding
  · cases hkind : s.seq.opKind <;> rw [hkind] at hstate
    · exact .inl (eq_of_beq hstate)
    · exact .inr (eq_of_beq hstate)
  · rw [eq_levelsAt hlines (by decide) (by decide)]
    exact ⟨rfl, by decide, by decide, by decide, by decide, rfl⟩

theorem stateInv_stepXResult (hinv : StateInv s) (hrst : s.env.rstN = true) (hbusy : s.stat.busy = true)
    (hspc : s.seq.spc = .xResult) : StateInv (stepXResult s) := by
  have hfits := fits_of_stateInv hinv hspc
  obtain ⟨hstate, hlines, ⟨hframes, hattempts, hretries, hcfgStep⟩, hstanding⟩ := id hfits
  have hlevels {l : Label} := linesFit_of_same_levels (l' := l) (st' := s.stat.state) hlines (by decide) (by decide)
  unfold stepXResult
  cases hres : s.seq.lastRes with
  | success =>
    exact stateInv_goto hrst hbusy (by decide) ⟨hstate, hlevels (by decide) rfl,
      ⟨hframes, hattempts, hretries, fun hx _ => hcfgStep hx (by decide)⟩, hstanding⟩
  | busy =>
    dsimp only
    split_ifs with hmore
    · refine stateInv_goto hrst hbusy (by decide) ⟨hstate, hlevels (by decide) rfl, ⟨hframes, ?_, fun hx hpos => ?_,
        fun hx _ => hcfgStep hx (by decide)⟩, hstanding⟩
      · simp only [attemptOk, Bool.and_eq_true, decide_eq_true_eq] at hattempts ⊢
        exact ⟨hattempts.1, hmore⟩
      · simpa [busyCount, hres] using hretries hx hpos
    · exact stateInv_raiseFault_xResult (by decide) hrst hfits
  | error | invalidArgument | timeout => exact stateInv_raiseFault_xResult (by decide) hrst hfits

theorem stateInv_stepXBackoff (hinv : StateInv s) (hrst : s.env.rstN = true) (hbusy : s.stat.busy = true)
    (hspc : s.seq.spc = .xBackoff) : StateInv (goto .xSel s) := by
  obtain ⟨hstate, hlines, ⟨hframes, hattempts, hretries, -⟩, hstanding⟩ := fits_of_stateInv hinv hspc
  refine stateInv_goto hrst hbusy (by decide) ⟨hstate,
    linesFit_of_same_levels hlines (by decide) (by decide) (by decide) rfl,
    ⟨hframes, ?_, hretries, fun _ hne => absurd rfl hne⟩, hstanding⟩
  · simp only [attemptOk, Bool.and_eq_true, decide_eq_true_eq] at hattempts ⊢
    exact hattempts.2

theorem stateInv_stepXNext (hinv : StateInv s) (hrst : s.env.rstN = true) (hbusy : s.stat.busy = true)
    (hspc : s.seq.spc = .xNext) : StateInv (stepXNext s) := by
  obtain ⟨hstate, hlines, ⟨hframes, -⟩, hregisters, htrace, hparams⟩ := fits_of_stateInv hinv hspc
  obtain ⟨-, hlists⟩ := hframes rfl
  have hlevels {l : Label} := linesFit_of_same_levels (l' := l) (st' := s.stat.state) hlines (by decide) (by decide)
  have hstanding : Standing { s with seq.opIdx := s.seq.opIdx + 1, seq.attempt := 0 } :=
    ⟨hregisters, htrace, hparams⟩
  unfold stepXNext
  dsimp only
  split_ifs with hmore
  · exact stateInv_goto hrst hbusy (by decide) ⟨hstate, hlevels (by decide) rfl,
      ⟨fun _ => ⟨hmore, hlists⟩, rfl, fun _ hpos => absurd hpos (Nat.not_succ_le_zero 0), fun _ hne => absurd rfl hne⟩, hstanding⟩
  · cases hkind : s.seq.opKind <;> rw [hkind] at hstate <;>
      exact stateInv_goto hrst hbusy (by decide) ⟨hstate, hlevels (by decide) rfl, transferFits_of_other rfl,
        ⟨hregisters, htrace, hparams⟩⟩

/-! ### The transfer itself -/

/-- A transfer leaves the registers legal: a failed one records no byte, and PREV_REQ is never `None` after one
(41_transport_and_lines R175, 42_command_codec R215). -/
theorem standing_sendFrame (b : Byte) (h : Standing s) : Standing (sendFrame b s) := by
  obtain ⟨⟨hcfg0, hresult, hfaultAt, -⟩, htrace, hparams⟩ := h
  have hframe := sendFrame_frame b s
  have hreq : (sendFrame b s).stat.prevReq ≠ .noReq := by
    rw [sendFrame_stat, transferWith_prevReq]
    split_ifs
    · unfold reqOf
      split <;> decide
    · decide
  refine ⟨⟨?_, ?_, ?_, fun hres => ?_, fun hvalid => ?_, fun hnone => absurd hnone hreq⟩, ?_, ?_⟩
  · rw [hframe]; exact hcfg0
  · rw [hframe]; exact hresult
  · rw [hframe]; exact hfaultAt
  · rw [sendFrame_lastXfer] at hres ⊢
    exact if_neg hres
  · rw [sendFrame_lastXfer] at hvalid
    cases hvalid
  · rw [TraceInOrder, sendFrame_trace, hframe]
    exact traceSorted_append _ htrace
  · rw [ParamsLegal, hframe]
    exact hparams

/-- The transfer step keeps the invariant: a `Busy` answer is counted in RETRIES (41_transport_and_lines R174). -/
theorem stateInv_sendFrame (b : Byte) (hinv : StateInv s) (hrst : s.env.rstN = true) (hbusy : s.stat.busy = true)
    (hspc : s.seq.spc = .xXfer) : StateInv (sendFrame b s) := by
  obtain ⟨hstate, hlines, ⟨hframes, hattempts, hretries, hcfgStep⟩, hstanding⟩ := fits_of_stateInv hinv hspc
  have hframe := sendFrame_frame b s
  have hcount : (sendFrame b s).stat.retries.toNat =
      if (nextAnswer b s).res = .busy then min 15 (s.stat.retries.toNat + 1) else s.stat.retries.toNat := by
    rw [sendFrame_stat, transferWith_retries, takeAnswer_stat]
  refine stateInv_of_fits (by rw [hframe]; exact hrst) ?_ ?_ ?_
  · simp [IdleMeansFree, sendFrame_spc, sendFrame_kept, hbusy]
  · rw [sendFrame_spc]
    refine ⟨by rw [hframe]; exact hstate, ?_, ⟨?_, ?_, fun hx hpos => ?_, ?_⟩, standing_sendFrame b hstanding⟩
    · rw [sendFrame_lines]
      exact linesFit_of_same_levels hlines (by decide) (by decide) (by decide) rfl
    · rw [hframe]; exact hframes
    · rw [hframe]; exact hattempts
    · have hattempt : (sendFrame b s).seq.attempt = s.seq.attempt := by rw [hframe]
      rw [hattempt] at hpos
      have hbefore := hretries rfl hpos
      rw [hcount, hattempt, sendFrame_lastRes, hbefore]
      simp only [busyCount]
      split_ifs <;> omega
    · rw [hframe]; exact fun hx _ => hcfgStep hx (by decide)
  · intro d hd
    rw [sendFrame_spc] at hd
    cases hd

/-! ### The bring-up -/

theorem stateInv_stepRstAssert (hinv : StateInv s) (hrst : s.env.rstN = true) (hbusy : s.stat.busy = true)
    (hspc : s.seq.spc = .bRstAssert) : StateInv (stepRstAssert s) := by
  obtain ⟨-, -, -, hstanding⟩ := fits_of_stateInv hinv hspc
  have hforget := standing_forgetDevice (standing_driveInactive hstanding)
  refine stateInv_goto hrst hbusy (by decide) ⟨rfl, ?_, transferFits_of_other rfl,
    standing_setState _ ⟨hforget.registers, hforget.trace, hforget.params⟩⟩
  exact linesFit_levelsAt (l := .bRstWait) (by decide)

/-- A step of the bring-up that goes to label `l`, where the lines are `l`'s levels and STATE is `l`'s. -/
theorem stateInv_goto_bringUp {l : Label} {u : State} (hrst : u.env.rstN = true) (hbusy : u.stat.busy = true)
    (hidle : l ≠ .idle) (hx : isXferLabel l = false) (hstate : labelStateOk l u.seq.opKind u.stat.state = true)
    (hlines : u.lines = levelsAt l) (h : Standing u) : StateInv (goto l u) :=
  stateInv_goto hrst hbusy hidle ⟨hstate, hlines ▸ linesFit_levelsAt hidle, transferFits_of_other hx, h⟩

theorem stateInv_stepRstWait (hinv : StateInv s) (hrst : s.env.rstN = true) (hbusy : s.stat.busy = true)
    (hspc : s.seq.spc = .bRstWait) : StateInv (stepRstWait s) := by
  obtain ⟨-, hlines, -, hstanding⟩ := fits_of_stateInv hinv hspc
  refine stateInv_goto_bringUp hrst hbusy (by decide) rfl rfl ?_ (standing_setState _ (standing_line .rst false hstanding))
  rw [setState_lines, line_lines, eq_levelsAt hlines (by decide) (by decide)]
  rfl

theorem stateInv_stepEn1 (hinv : StateInv s) (hrst : s.env.rstN = true) (hbusy : s.stat.busy = true)
    (hspc : s.seq.spc = .bEn1) : StateInv (stepEn1 s) := by
  obtain ⟨hstate, hlines, -, hstanding⟩ := fits_of_stateInv hinv hspc
  refine stateInv_goto_bringUp hrst hbusy (by decide) rfl hstate ?_ (standing_line .en1 true hstanding)
  rw [line_lines, eq_levelsAt hlines (by decide) (by decide)]
  rfl

theorem stateInv_stepEn2 (hinv : StateInv s) (hrst : s.env.rstN = true) (hbusy : s.stat.busy = true)
    (hspc : s.seq.spc = .bEn2) : StateInv (stepEn2 s) := by
  obtain ⟨hstate, hlines, -, hstanding⟩ := fits_of_stateInv hinv hspc
  refine stateInv_goto_bringUp hrst hbusy (by decide) rfl hstate ?_ (standing_line .en2 true hstanding)
  rw [line_lines, eq_levelsAt hlines (by decide) (by decide)]
  rfl

theorem stateInv_stepEnWait (hinv : StateInv s) (hrst : s.env.rstN = true) (hbusy : s.stat.busy = true)
    (hspc : s.seq.spc = .bEnWait) : StateInv (stepEnWait s) := by
  obtain ⟨-, hlines, -, hstanding⟩ := fits_of_stateInv hinv hspc
  refine stateInv_goto_bringUp hrst hbusy (by decide) rfl rfl ?_ (standing_line .ls true (standing_setState _ hstanding))
  rw [line_lines, setState_lines, eq_levelsAt hlines (by decide) (by decide)]
  rfl

theorem stateInv_stepLsHold (hinv : StateInv s) (hrst : s.env.rstN = true) (hbusy : s.stat.busy = true)
    (hspc : s.seq.spc = .bLsHold) : StateInv (stepLsHold s) := by
  obtain ⟨-, hlines, -, hstanding⟩ := fits_of_stateInv hinv hspc
  refine stateInv_goto_bringUp hrst hbusy (by decide) rfl rfl ?_
    (standing_line .hs true (standing_setState _ (standing_line .ls false hstanding)))
  rw [line_lines, setState_lines, line_lines, eq_levelsAt hlines (by decide) (by decide)]
  rfl

/-- The first frame is begun with `CfgFrames()` in the frame list (43_bringup_fsm R262). -/
theorem stateInv_stepHsHold (hinv : StateInv s) (hrst : s.env.rstN = true) (hbusy : s.stat.busy = true)
    (hspc : s.seq.spc = .bHsHold) : StateInv (stepHsHold s) := by
  obtain ⟨-, hlines, -, hstanding⟩ := fits_of_stateInv hinv hspc
  have hevents := standing_setState .configuring (standing_line .hs false hstanding)
  refine stateInv_goto hrst hbusy (by decide) ⟨rfl, ?_, ⟨fun _ => ⟨Nat.succ_pos 3, fun _ => rfl, nofun⟩, rfl,
    fun _ hpos => absurd hpos (Nat.not_succ_le_zero 0), fun _ hne => absurd rfl hne⟩,
    ⟨hevents.registers, hevents.trace, hevents.params⟩⟩
  rw [setState_lines, line_lines, eq_levelsAt hlines (by decide) (by decide)]
  exact linesFit_levelsAt (l := .xSel) (by decide)

theorem stateInv_stepCalSel (hinv : StateInv s) (hrst : s.env.rstN = true) (hbusy : s.stat.busy = true)
    (hspc : s.seq.spc = .bCalSel) : StateInv (stepCalSel s) := by
  obtain ⟨hstate, hlines, -, hstanding⟩ := fits_of_stateInv hinv hspc
  have hlevels := eq_levelsAt hlines (by decide) (by decide)
  unfold stepCalSel
  split_ifs
  · exact stateInv_goto_bringUp hrst hbusy (by decide) rfl hstate hlevels hstanding
  · refine stateInv_goto_bringUp hrst hbusy (by decide) rfl hstate ?_ (standing_line .cs true hstanding)
    rw [line_lines, hlevels]
    rfl

theorem stateInv_stepCalHold (hinv : StateInv s) (hrst : s.env.rstN = true) (hbusy : s.stat.busy = true)
    (hspc : s.seq.spc = .bCalHold) : StateInv (stepCalHold s) := by
  obtain ⟨hstate, hlines, -, hstanding⟩ := fits_of_stateInv hinv hspc
  refine stateInv_goto_bringUp hrst hbusy (by decide) rfl hstate ?_ (standing_line .cs false hstanding)
  rw [line_lines, eq_levelsAt hlines (by decide) (by decide)]
  rfl

/-! ### The ends -/

/-- At rest in `Active` after B_DONE and H_DONE the lines are those of an enabled device. -/
theorem linesFit_idle_active {b : Lines} (h : b = levelsAt .bDone) : LinesFit .idle .active b :=
  h ▸ ⟨rfl, by decide, by decide, by decide, by decide, rfl⟩

theorem stateInv_stepDone (hinv : StateInv s) (hrst : s.env.rstN = true) (hspc : s.seq.spc = .bDone) :
    StateInv (stepDone s) := by
  obtain ⟨-, hlines, -, hstanding⟩ := fits_of_stateInv hinv hspc
  exact stateInv_finish hrst (by decide) rfl (linesFit_idle_active (eq_levelsAt hlines (by decide) (by decide)))
    (standing_setState _ hstanding)

theorem stateInv_stepHDone (hinv : StateInv s) (hrst : s.env.rstN = true) (hspc : s.seq.spc = .hDone) :
    StateInv (stepHDone s) := by
  obtain ⟨hstate, hlines, -, hstanding⟩ := fits_of_stateInv hinv hspc
  have hactive : s.stat.state = .active := eq_of_beq hstate
  have hlevels := linesFit_idle_active ((eq_levelsAt hlines (by decide) (by decide)).trans rfl)
  exact stateInv_finish hrst (by decide) (by rw [hactive]; rfl) (by rwa [hactive]) hstanding

/-- Every labelled step keeps the invariant (43_bringup_fsm R253 to R266, 44_host_operations R309). -/
theorem stateInv_labelStep (hinv : StateInv s) (hrst : s.env.rstN = true) (hbusy : s.stat.busy = true) :
    StateInv (labelStep s) := by
  unfold labelStep
  cases hspc : s.seq.spc
  case idle | xXfer => exact hinv
  case xSel => exact stateInv_stepXSel hinv hrst hbusy hspc
  case xUnsel => exact stateInv_stepXUnsel hinv hrst hbusy hspc
  case xResult => exact stateInv_stepXResult hinv hrst hbusy hspc
  case xBackoff => exact stateInv_stepXBackoff hinv hrst hbusy hspc
  case xNext => exact stateInv_stepXNext hinv hrst hbusy hspc
  case bRstAssert => exact stateInv_stepRstAssert hinv hrst hbusy hspc
  case bRstWait => exact stateInv_stepRstWait hinv hrst hbusy hspc
  case bEn1 => exact stateInv_stepEn1 hinv hrst hbusy hspc
  case bEn2 => exact stateInv_stepEn2 hinv hrst hbusy hspc
  case bEnWait => exact stateInv_stepEnWait hinv hrst hbusy hspc
  case bLsHold => exact stateInv_stepLsHold hinv hrst hbusy hspc
  case bHsHold => exact stateInv_stepHsHold hinv hrst hbusy hspc
  case bCalSel => exact stateInv_stepCalSel hinv hrst hbusy hspc
  case bCalHold => exact stateInv_stepCalHold hinv hrst hbusy hspc
  case bDone => exact stateInv_stepDone hinv hrst hspc
  case hDone => exact stateInv_stepHDone hinv hrst hspc

end Sys2Proof.Proofs
end

section
/-! SUPPORT. Every host access, the environment's moves and block reset keep the invariant, so every step does; and no step
of a state that meets it stops. -/

namespace Sys2Proof.Proofs

open Sys2Proof.Machine Sys2Proof.Safety Sys2Proof.Claims

/-! ### What changes no part of the invariant -/

/-- Time, the inputs and the delay counter change no part of the invariant (20_memory R92). -/
theorem stateInv_of_quiet {s t : State} (hinv : StateInv s) (h : Quiet s t) : StateInv t := by
  obtain ⟨env, count, phase, rfl, hnow, hrst, -⟩ := h
  obtain ⟨hfree, hstate, hpulses, henables, hpower, hframes, hattempts, hretries, hcfgStep, hwait, hregisters, htrace,
    hheld, hparams⟩ := hinv
  refine ⟨hfree, hstate, hpulses, henables, hpower, hframes, hattempts, hretries, hcfgStep, fun d hd => ?_, hregisters,
    traceSorted_of_le hnow htrace, fun hlow => ?_, hparams⟩
  · obtain ⟨hwaitD, hstart⟩ := hwait d hd
    exact ⟨hwaitD, hstart.trans hnow⟩
  · have hlow' : s.env.rstN = false := by
      obtain hsame | ⟨-, hhigh⟩ := hrst
      · exact hsame ▸ hlow
      · exact absurd (hlow.symm.trans hhigh) (by decide)
    exact (atResetValues_iff _).mpr ((atResetValues_iff s).mp (hheld hlow'))

/-- What the bus answered is no part of the invariant (20_memory R83). -/
theorem stateInv_bus {s : State} (hinv : StateInv s) (r : BusResp) : StateInv { s with bus := r } := by
  obtain ⟨hfree, hstate, hpulses, henables, hpower, hframes, hattempts, hretries, hcfgStep, hwait, hregisters, htrace,
    hheld, hparams⟩ := hinv
  exact ⟨hfree, hstate, hpulses, henables, hpower, hframes, hattempts, hretries, hcfgStep, hwait, hregisters, htrace,
    fun hlow => (atResetValues_iff _).mpr ((atResetValues_iff s).mp (hheld hlow)), hparams⟩

theorem stateInv_takeMove {s : State} (hinv : StateInv s) : StateInv (takeMove s) :=
  stateInv_of_quiet hinv (quiet_takeMove s)

/-- CMD_LOST is no part of the invariant out of block reset (10_state R24). -/
theorem stateInv_cmdLost {s : State} (hinv : StateInv s) (hrst : s.env.rstN = true) (lost : Bool) :
    StateInv { s with stat.cmdLost := lost } := by
  obtain ⟨hfree, hstate, hpulses, henables, hpower, hframes, hattempts, hretries, hcfgStep, hwait, hregisters, htrace,
    -, hparams⟩ := hinv
  exact ⟨hfree, hstate, hpulses, henables, hpower, hframes, hattempts, hretries, hcfgStep, hwait, hregisters, htrace,
    fun hlow => absurd (hlow.symm.trans hrst) (by decide), hparams⟩

/-- An event at the present time keeps the invariant out of block reset (20_memory R97). -/
theorem stateInv_record {s : State} (hinv : StateInv s) (hrst : s.env.rstN = true) (e : Event) :
    StateInv (record e s) := by
  obtain ⟨hfree, hstate, hpulses, henables, hpower, hframes, hattempts, hretries, hcfgStep, hwait, hregisters, htrace,
    -, hparams⟩ := hinv
  exact ⟨hfree, hstate, hpulses, henables, hpower, hframes, hattempts, hretries, hcfgStep, hwait, hregisters,
    traceSorted_append e htrace, fun hlow => absurd (hlow.symm.trans hrst) (by decide), hparams⟩

/-! ### The configuration registers -/

/-- While idle, the configuration and RESULT are free but for CFG0's reserved bits and RESULT's one impossible code. -/
theorem stateInv_of_idle_registers {s : State} (hinv : StateInv s) (hrst : s.env.rstN = true)
    (hidle : s.stat.busy = false) {c0 c1 : Word} {code : StatusCode} (hc0 : c0 &&& 0x0000F000#32 = 0#32)
    (hcode : code ≠ .noTransferInProgress) : StateInv { s with cfg0 := c0, cfg1 := c1, result := code } := by
  obtain ⟨hfree, -⟩ := id hinv
  have hspc := hfree.mp hidle
  obtain ⟨hstate, hlines, -, ⟨-, -, hregisters⟩, htrace, hparams⟩ := fits_of_stateInv hinv hspc
  refine stateInv_of_fits hrst hfree ?_ (fun d hd => ?_) <;> dsimp only at * <;> rw [hspc] at *
  · exact ⟨hstate, hlines, transferFits_of_other rfl, ⟨⟨hc0, hcode, hregisters⟩, htrace, hparams⟩⟩
  · cases hd

/-- The configuration as it stands, with RESULT. -/
theorem registers_of_stateInv {s : State} (hinv : StateInv s) :
    s.cfg0 &&& 0x0000F000#32 = 0#32 ∧ s.result ≠ .noTransferInProgress := by
  obtain ⟨-, -, -, -, -, -, -, -, -, -, ⟨hcfg0, hresult, -⟩, -⟩ := hinv
  exact ⟨hcfg0, hresult⟩

/-- A write that runs no operation keeps the invariant (10_state R24, 44_host_operations R310). -/
theorem stateInv_writeEffect {off : Nat} {w : Word} {s t : State} (hinv : StateInv s) (hrst : s.env.rstN = true)
    (h : WriteEffect off w s t) : StateInv t := by
  obtain ⟨hcfg0, hresult⟩ := registers_of_stateInv hinv
  cases h with
  | ignored => exact hinv
  | stat | lost => exact stateInv_cmdLost hinv hrst _
  | locked hidle => exact stateInv_of_idle_registers (c1 := s.cfg1) hinv hrst hidle hcfg0 (by decide)
  | cfg1 hidle => exact stateInv_of_idle_registers (c1 := w) hinv hrst hidle hcfg0 hresult
  | cfg0 hidle =>
    have hstored := stateInv_of_idle_registers (c1 := s.cfg1) hinv hrst hidle (cfg0Stored_reserved w) hresult
    unfold storeCfg0
    split_ifs
    · exact hstored
    · exact stateInv_record hstored hrst _

/-! ### The operations as they are accepted -/

theorem stateInv_initBody {s : State} (hrst : s.env.rstN = true) (hfits : Fits .idle s) : StateInv (initBody s) := by
  obtain ⟨-, hlines, -, hstanding⟩ := hfits
  have hoff := standing_setState .poweredOff hstanding
  obtain ⟨hdt, hpin⟩ | ⟨code, hcode, hfault⟩ := initBody_cases s
  · rw [initBody, if_neg hdt.not_gt, if_neg (by simp [hpin])]
    exact stateInv_goto hrst rfl (by decide) ⟨rfl, linesFit_bRstAssert hlines, transferFits_of_other rfl,
      ⟨hoff.registers, hoff.trace, hoff.params⟩⟩
  · rw [hfault]
    refine stateInv_raiseFault hrst ?_ (.inl rfl) (linesFit_faulted hlines) hoff
    obtain rfl | rfl := hcode <;> decide

theorem stateInv_shutdownBody {s : State} (hrst : s.env.rstN = true) (hfits : Fits .idle s) :
    StateInv (shutdownBody s) := by
  obtain ⟨-, -, -, hstanding⟩ := hfits
  exact stateInv_finish hrst (by decide) rfl linesFit_reset
    (standing_setState _ (standing_forgetDevice (standing_driveInactive hstanding)))

theorem stateInv_startHostFrames {s : State} {frames : List Byte} (hrst : s.env.rstN = true) (hfits : Fits .idle s)
    (hactive : s.stat.state = .active) (hne : frames ≠ []) (hservice : serviceFrames frames = true) :
    StateInv (startHostFrames frames s) := by
  obtain ⟨-, hlines, -, hregisters, htrace, hparams⟩ := hfits
  rw [hactive] at hlines
  refine stateInv_goto hrst rfl (by decide) ⟨by simp [hactive, labelStateOk], ?_,
    ⟨fun _ => ⟨List.length_pos_iff.mpr hne, nofun, fun _ => hservice⟩, rfl,
      fun _ hpos => absurd hpos (Nat.not_succ_le_zero 0), fun _ hsel => absurd rfl hsel⟩, ⟨hregisters, htrace, hparams⟩⟩
  exact (eq_levelsAt_of_active hlines) ▸ linesFit_levelsAt (l := .xSel) (by decide)

/-- The part of an accepted operation keeps the invariant (44_host_operations R302 to R308). -/
theorem stateInv_opEffect {op : Nat} {s t : State} (hinv : StateInv s) (hrst : s.env.rstN = true)
    (hidle : s.stat.busy = false) (h : OpEffect op s t) : StateInv t := by
  obtain ⟨hfree, -⟩ := id hinv
  have hfits := fits_of_stateInv hinv (hfree.mp hidle)
  cases h with
  | nop => exact hinv
  | init => exact stateInv_initBody hrst hfits
  | shutdown => exact stateInv_shutdownBody hrst hfits
  | refused hop code hcode =>
    obtain ⟨hstate, hlines, -, hstanding⟩ := hfits
    refine stateInv_finish hrst ?_ hstate hlines hstanding
    obtain rfl | rfl := hcode <;> decide
  | started hlow hhigh frames hactive hne hservice =>
    exact stateInv_startHostFrames hrst hfits hactive hne hservice

/-- Every host access keeps the invariant (20_memory R80 to R89, 44_host_operations R300). -/
theorem stateInv_hostEffect {a : HostAccess} {s t : State} (hinv : StateInv s) (h : HostEffect a s t) : StateInv t := by
  cases h with
  | answered r => exact stateInv_bus hinv r
  | written off w hrst ha heffect => exact stateInv_writeEffect (stateInv_bus hinv .written) hrst heffect
  | accepted w hrst ha hidle heffect =>
    exact stateInv_opEffect (stateInv_record (stateInv_bus hinv .written) hrst _) hrst hidle heffect

/-! ### Block reset -/

/-- The dead time at reset sets no reserved bit of CFG0 (10_state R28, R44). -/
theorem cfg0_atReset_reserved (dt : BitVec 16) : (dt ++ 0#16 : Word) &&& 0x0000F000#32 = 0#32 := by
  refine BitVec.eq_of_getLsbD_eq fun k hk => ?_
  rw [BitVec.getLsbD_and]
  have hbit : (dt ++ 0#16 : Word).getLsbD k = if k < 16 then (0#16).getLsbD k else dt.getLsbD (k - 16) :=
    BitVec.getLsbD_append
  rw [hbit]
  interval_cases k <;> simp

/-- The reset values meet the invariant, over any trace in order and any legal parameters (10_state R44). -/
theorem stateInv_atReset {trace : List (Nat × Event)} {env : Env} {params : Params} (bus : BusResp)
    (htrace : traceSorted env.now trace = true) (hparams : params.wf = true) :
    StateInv (State.atReset trace bus env params) := by
  obtain ⟨hcs, hls, hhs, hen2, hen1, hpower⟩ := linesFit_reset
  exact ⟨⟨fun _ => rfl, fun _ => rfl⟩, rfl, ⟨hcs, hls, hhs⟩, ⟨hen2, hen1⟩, hpower, nofun, rfl, nofun, nofun, nofun,
    ⟨cfg0_atReset_reserved _, nofun, .inl rfl, fun hres => absurd rfl hres, fun _ => rfl, fun _ => rfl⟩, htrace,
    fun _ => rfl, hparams⟩

/-- Settles O49: the state after reset has the reset values, an empty trace and the default parameters. -/
theorem invariantAtReset : Obligations.InvariantAtReset :=
  stateInv_atReset .noneYet rfl (by decide)

/-! ### Every step -/

/-- Settles O50: each of the five effects of a step keeps the invariant. -/
theorem everyStepKeepsInvariant : Obligations.EveryStepKeepsInvariant := by
  intro s t hinv hstep
  have htaken := stateInv_takeMove hinv
  cases stepEffect_of_step hstep with
  | quiet hquiet => exact stateInv_of_quiet hinv hquiet
  | blockReset =>
    obtain ⟨-, -, -, -, -, -, -, -, -, -, -, htrace, -, hparams⟩ := htaken
    exact stateInv_atReset _ htrace hparams
  | host a hmove hopen heffect => exact stateInv_hostEffect htaken heffect
  | label hsched =>
    obtain ⟨-, hrst, hbusy, -⟩ := hsched
    exact stateInv_labelStep htaken (by simpa using hrst) (by simpa using hbusy)
  | frame b i hsched =>
    obtain ⟨-, hrst, hbusy, hspc⟩ := hsched
    exact stateInv_sendFrame b htaken (by simpa using hrst) (by simpa using hbusy) (by simpa using hspc)

/-- A frame SEND accepts decodes (44_host_operations R305). -/
theorem decodeFrame_of_sendAccepts {b : Byte} (h : sendAccepts b = true) : ∃ i, decodeFrame b = .ok i := by
  cases hdec : decodeFrame b with
  | ok i => exact ⟨i, rfl⟩
  | error r => simp [sendAccepts, hdec] at h

/-- At X_XFER the invariant has a legal frame in progress (20_memory R84). -/
theorem currentFrame_of_stateInv {s : State} (hinv : StateInv s) (hspc : s.seq.spc = .xXfer) :
    ∃ b i, currentFrame s = some b ∧ decodeFrame b = .ok i := by
  obtain ⟨-, -, ⟨hframes, -⟩, -, -, hparams⟩ := fits_of_stateInv hinv hspc
  obtain ⟨hidx, hbringup, hservice⟩ := hframes rfl
  have hmem := List.getElem_mem hidx
  have hlegal : ∃ i, decodeFrame s.seq.opList[s.seq.opIdx] = .ok i := by
    cases hkind : s.seq.opKind with
    | bringup =>
      refine decodeFrame_of_mem_cfgFrames (c := s.cfg0) hparams ?_
      rw [← hbringup hkind]
      exact hmem
    | hostop => exact decodeFrame_of_sendAccepts (List.all_eq_true.mp (hservice hkind) _ hmem)
  obtain ⟨i, hdec⟩ := hlegal
  exact ⟨_, i, List.getElem?_eq_getElem hidx, hdec⟩

/-- Settles O51: a step stops at X_XFER only, and there the invariant has a legal frame. -/
theorem noStepStops : Obligations.NoStepStops :=
  fun _ hinv => step_answers fun hsched => currentFrame_of_stateInv hinv hsched.2.2.2

/-! ### Block reset holds -/

/-- While `rst_n` is low a step is quiet, or an access that is answered as a bus error at most (70_reset_and_hazards
R380). -/
theorem held_cases {s t : State} (hlow : s.env.rstN = false) (hstep : step s = .next t)
    (hreset : nextMove s ≠ .rst false) :
    Quiet s t ∨ ∃ r, (r = s.bus ∨ r = .error) ∧ t = { takeMove s with bus := r } := by
  have hnot : ∀ {l}, ¬ Scheduled l s := fun ⟨_, hrst, _⟩ => by simp [hlow] at hrst
  cases stepEffect_of_step hstep with
  | quiet hquiet => exact .inl hquiet
  | blockReset hmove => exact absurd hmove hreset
  | label hsched | frame b i hsched => exact absurd hsched hnot
  | host a hmove hopen heffect =>
    cases heffect with
    | answered r hheld => exact .inr ⟨r, by simpa [hlow] using hheld, rfl⟩
    | written off w hrst | accepted w hrst => simp [hlow] at hrst

/-- Settles O47: `rst_n` low is block reset; while it is low the invariant, kept by the step, holds every register at its
reset value, and no step of the PDC is enabled. -/
theorem blockResetHolds : Obligations.BlockResetHolds := by
  refine ⟨fun s hmove => ⟨_, step_of_rst_low hmove, ?_⟩, fun s t hinv hlow hhigh hstep => ?_, fun s hmove => ?_⟩
  · exact ⟨atReset_atResetValues _ _ _ _, by simp [blockReset, State.atReset], by simp [blockReset, State.atReset],
      by simp [blockReset, State.atReset], rfl⟩
  · obtain ⟨-, -, -, -, -, -, -, -, -, -, -, -, hheld, -⟩ := everyStepKeepsInvariant s t hinv hstep
    by_cases hreset : nextMove s = .rst false
    · rw [step_of_rst_low hreset] at hstep
      cases hstep
      exact ⟨hheld rfl, by simp [blockReset, State.atReset], by simp [blockReset, State.atReset], rfl,
        .inl (by simp [blockReset, State.atReset])⟩
    · obtain ⟨env, count, phase, rfl, -, hsame | ⟨hrst, -⟩, -⟩ | ⟨r, hr, rfl⟩ := held_cases hlow hstep hreset
      · have hlow' := hsame.trans hlow
        exact ⟨hheld hlow', rfl, rfl, hlow', .inl rfl⟩
      · exact absurd hrst hhigh
      · have hlow' : (takeMove s).env.rstN = false := by simpa using hlow
        exact ⟨hheld hlow', by simp, by simp, hlow', hr⟩
  · rw [step_of_move hmove]
    rfl

end Sys2Proof.Proofs
end

section
/-! SUPPORT. Noninterference of the status registers (42_command_codec R217): every operation of the PDC commutes with a
change of STATUS and of the bus answer. -/

namespace Sys2Proof.Proofs

open Sys2Proof.Machine Sys2Proof.Safety Sys2Proof.Claims

/-- The state with other status registers and another bus answer. -/
def reseen (f : StatusFile) (r : BusResp) (s : State) : State := { s with status := f, bus := r }

/-- An operation that acts on neither the status registers nor the bus answer, and writes neither. -/
def Blind (op : State → State) : Prop := ∀ f r s, op (reseen f r s) = reseen f r (op s)

/-! ### The shared operations -/

theorem blind_goto (l : Label) : Blind (goto l) := by
  intro f r s
  cases hwait : waitOf s.params s.cfg0 l with
  | none => rw [goto_of_no_wait hwait, goto_of_no_wait (s := reseen f r s) hwait]; rfl
  | some d => rw [goto_of_wait hwait, goto_of_wait (s := reseen f r s) hwait]; rfl

theorem blind_takeMove : Blind takeMove := by
  intro f r s
  cases hmoves : s.env.moves with
  | nil => simp [takeMove, reseen, hmoves]
  | cons m rest => simp [takeMove, reseen, hmoves]

theorem blind_takeAnswer : Blind takeAnswer := by
  intro f r s
  cases hanswers : s.env.answers with
  | nil => simp [takeAnswer, reseen, hanswers]
  | cons a rest => simp [takeAnswer, reseen, hanswers]

theorem blind_raiseFault (code : StatusCode) : Blind (raiseFault code) := by
  intro f r s
  rw [raiseFault_eq, raiseFault_eq]
  rfl

theorem blind_delayTick : Blind delayTick := by
  intro f r s
  obtain hzero | hpos := Nat.eq_zero_or_pos s.seq.waitCount
  · rw [delayTick_done hzero, delayTick_done (s := reseen f r s) hzero]
  · obtain hwithin | hfull := Nat.lt_or_ge (s.seq.waitPhase + 1) s.params.waitStepCycles
    · rw [delayTick_within hpos hwithin, delayTick_within (s := reseen f r s) hpos hwithin]
      rfl
    · rw [delayTick_full hpos hfull, delayTick_full (s := reseen f r s) hpos hfull]
      rfl

/-! ### The labelled steps -/

/-- A choice the status registers have no part in. -/
theorem blind_ite {p : State → Prop} [DecidablePred p] {x y : State → State} (hp : ∀ f r s, p (reseen f r s) ↔ p s)
    (hx : Blind x) (hy : Blind y) : Blind fun s => if p s then x s else y s := by
  intro f r s
  dsimp only
  by_cases h : p s
  · rw [if_pos h, if_pos ((hp f r s).mpr h), hx]
  · rw [if_neg h, if_neg (mt (hp f r s).mp h), hy]

theorem blind_stepXResult : Blind stepXResult := by
  intro f r s
  have hbusy := blind_ite (p := fun s => s.seq.attempt ≤ s.params.busyRetryMax) (fun _ _ _ => Iff.rfl)
    (blind_goto .xBackoff) (blind_raiseFault .fail) f r s
  unfold stepXResult
  rw [show (reseen f r s).seq.lastRes = s.seq.lastRes from rfl]
  cases s.seq.lastRes with
  | success => exact blind_goto _ f r s
  | busy => exact hbusy
  | error | invalidArgument | timeout => exact blind_raiseFault _ f r s

theorem blind_stepRstAssert : Blind stepRstAssert := by
  intro f r s
  unfold stepRstAssert
  rw [← blind_goto, driveInactive_eq, driveInactive_eq]
  rfl

theorem blind_stepCalSel : Blind stepCalSel :=
  blind_ite (p := fun s => cfgDeadtime s.cfg0 = 0#16) (fun _ _ _ => Iff.rfl) (blind_goto _)
    (fun f r s => blind_goto .bCalHold f r (line .cs true s))

/-- At a label whose step is a blind operation, the step is blind. -/
theorem labelStep_reseen {op : State → State} {l : Label} {s : State} (f : StatusFile) (r : BusResp)
    (hspc : s.seq.spc = l) (hop : ∀ {u : State}, u.seq.spc = l → labelStep u = op u) (hblind : Blind op) :
    labelStep (reseen f r s) = reseen f r (labelStep s) := by
  rw [hop hspc, hop (u := reseen f r s) hspc]
  exact hblind f r s

/-- Every labelled step is blind (43_bringup_fsm R253 to R266, 44_host_operations R309). -/
theorem blind_labelStep : Blind labelStep := by
  intro f r s
  cases hspc : s.seq.spc
  case idle => exact labelStep_reseen f r (op := id) hspc (fun h => by rw [labelStep, h]; rfl) (fun _ _ _ => rfl)
  case xXfer => exact labelStep_reseen f r (op := id) hspc (fun h => by rw [labelStep, h]; rfl) (fun _ _ _ => rfl)
  case xSel => exact labelStep_reseen f r hspc labelStep_of_xSel (fun _ _ _ => rfl)
  case xUnsel => exact labelStep_reseen f r hspc labelStep_of_xUnsel (fun _ _ _ => rfl)
  case xResult => exact labelStep_reseen f r hspc labelStep_of_xResult blind_stepXResult
  case xBackoff => exact labelStep_reseen f r hspc labelStep_of_xBackoff (fun _ _ _ => rfl)
  case xNext => exact labelStep_reseen f r hspc labelStep_of_xNext (fun _ _ _ => rfl)
  case bRstAssert => exact labelStep_reseen f r hspc labelStep_of_bRstAssert blind_stepRstAssert
  case bRstWait =>
    exact labelStep_reseen f r hspc labelStep_of_bRstWait fun f r u => blind_goto .bEn1 f r (setState .resetReleased (line .rst false u))
  case bEn1 => exact labelStep_reseen f r hspc labelStep_of_bEn1 fun f r u => blind_goto .bEn2 f r (line .en1 true u)
  case bEn2 => exact labelStep_reseen f r hspc labelStep_of_bEn2 fun f r u => blind_goto .bEnWait f r (line .en2 true u)
  case bEnWait =>
    exact labelStep_reseen f r hspc labelStep_of_bEnWait fun f r u =>
      blind_goto .bLsHold f r (line .ls true (setState .lowSideToggling u))
  case bLsHold =>
    exact labelStep_reseen f r hspc labelStep_of_bLsHold fun f r u =>
      blind_goto .bHsHold f r (line .hs true (setState .highSideToggling (line .ls false u)))
  case bHsHold => exact labelStep_reseen f r hspc labelStep_of_bHsHold (fun _ _ _ => rfl)
  case bCalSel => exact labelStep_reseen f r hspc labelStep_of_bCalSel blind_stepCalSel
  case bCalHold => exact labelStep_reseen f r hspc labelStep_of_bCalHold (fun _ _ _ => rfl)
  case bDone => exact labelStep_reseen f r hspc labelStep_of_bDone (fun _ _ _ => rfl)
  case hDone => exact labelStep_reseen f r hspc labelStep_of_hDone (fun _ _ _ => rfl)

/-! ### The host's writes -/

theorem blind_startHostFrames (frames : List Byte) : Blind (startHostFrames frames) := by
  intro f r s
  rw [startHostFrames_eq, startHostFrames_eq]
  rfl

theorem blind_onlyActive {body : State → State} (h : Blind body) : Blind (onlyActive body) :=
  blind_ite (p := fun s => s.stat.state = .active) (fun _ _ _ => Iff.rfl) h (fun _ _ _ => rfl)

/-- A body that checks its operand before it starts its frames (44_host_operations R305, R306). -/
theorem blind_checkedFrames (p : Prop) [Decidable p] (frames : List Byte) :
    Blind fun s => if p then startHostFrames frames s else finish .invalidArgument s :=
  blind_ite (p := fun _ => p) (fun _ _ _ => Iff.rfl) (blind_startHostFrames frames) (fun _ _ _ => rfl)

theorem blind_initBody : Blind initBody := by
  intro f r s
  unfold initBody
  rw [show (reseen f r s).params = s.params from rfl, show (reseen f r s).cfg0 = s.cfg0 from rfl,
    show (reseen f r s).env = s.env from rfl]
  dsimp only
  split_ifs
  · exact blind_raiseFault _ f r (setState .poweredOff s)
  · exact blind_raiseFault _ f r (setState .poweredOff s)
  · exact blind_goto _ f r { setState .poweredOff s with stat.busy := true, seq.opKind := .bringup }

theorem blind_shutdownBody : Blind shutdownBody := by
  intro f r s
  rw [shutdownBody_eq, shutdownBody_eq]
  rfl

/-- The part of every operation is blind (44_host_operations R302 to R308). -/
theorem blind_opBody (op : Nat) (arg : Byte) : Blind (opBody op arg) := by
  unfold opBody
  split
  case h_1 => exact fun _ _ _ => rfl
  case h_2 => exact blind_initBody
  case h_3 => exact blind_shutdownBody
  case h_4 => exact blind_onlyActive (blind_checkedFrames _ _)
  case h_5 => exact blind_onlyActive (blind_checkedFrames _ _)
  case h_6 => exact blind_onlyActive (blind_startHostFrames _)
  case h_7 => exact fun _ _ _ => rfl

theorem blind_acceptCtrl (op : BitVec 3) (arg : Byte) {body : State → State} (h : Blind body) :
    Blind (acceptCtrl op arg body) :=
  blind_ite (p := fun s => s.stat.busy = true) (fun _ _ _ => Iff.rfl) (fun _ _ _ => rfl)
    (fun f r s => h f r (record (.host op arg) s))

theorem blind_storeCfg0 (v : Word) : Blind (storeCfg0 v) := by
  intro f r s
  rw [storeCfg0_eq, storeCfg0_eq]
  rfl

theorem blind_configWrite {store : State → State} (h : Blind store) : Blind (configWrite store) :=
  blind_ite (p := fun s => s.stat.busy = true) (fun _ _ _ => Iff.rfl) (fun _ _ _ => rfl)
    (blind_ite (p := fun s => cfgUnlocked s = true) (fun _ _ _ => Iff.rfl) h (fun _ _ _ => rfl))

/-- The write of a register other than CTRL is blind (20_memory R89). -/
theorem blind_writeReg (off : Nat) (v : Word) : Blind (writeReg off v) := by
  unfold writeReg
  split
  · exact fun _ _ _ => rfl
  · exact blind_configWrite (blind_storeCfg0 v)
  · exact blind_configWrite (store := fun t => { t with cfg1 := v }) (fun _ _ _ => rfl)
  · exact fun _ _ _ => rfl

/-! ### The transfer -/

/-- What a transfer does to STAT does not depend on the status registers (42_command_codec R214, R215). -/
theorem transferWith_stat_reseen (tx : Byte) (a : Answer) (f : StatusFile) (r : BusResp) (s : State) :
    (transferWith tx a (reseen f r s)).stat = (transferWith tx a s).stat := by
  obtain ⟨res, rx⟩ := a
  cases hreq : reqIndex s.stat.prevReq <;> cases res <;>
    simp [transferWith, countBusy, pipelineAfter, codecLatch, latchStatus, record, reseen, hreq]

/-- A transfer latches its byte, or none, into the status registers it finds, and is else blind (42_command_codec R214). -/
theorem sendFrame_reseen (b : Byte) (f : StatusFile) (r : BusResp) (s : State) :
    ∃ g, sendFrame b (reseen f r s) = reseen g r (sendFrame b s) := by
  refine ⟨(sendFrame b (reseen f r s)).status, ?_⟩
  have hanswer : nextAnswer b (reseen f r s) = nextAnswer b s := rfl
  rw [sendFrame_eq b s, sendFrame_eq, hanswer, blind_takeAnswer, transferWith_eq, transferWith_stat_reseen]
  conv_rhs => rw [transferWith_eq]
  rfl

/-! ### The moves -/

/-- Another STATUS and another bus answer before a host access make no other difference after it. -/
theorem hostMove_reseen {a : HostAccess} {s t : State} (f : StatusFile) (r : BusResp) (h : hostMove a s = .next t) :
    ∃ r', hostMove a (reseen f r s) = .next (reseen f r' t) := by
  unfold hostMove at h ⊢
  rw [show (reseen f r s).params = s.params from rfl, show (reseen f r s).env = s.env from rfl]
  cases htarget : busTarget s.params.baseAddr a <;> rw [htarget] at h
  case write off w =>
    dsimp only at h ⊢
    split_ifs at h ⊢
    · split at h
      · rw [ctrlWrite_eq] at h ⊢
        cases h
        exact ⟨.written, congrArg _ (blind_acceptCtrl _ _ (blind_opBody _ _) f .written { s with bus := .written })⟩
      · cases h
        exact ⟨.written, congrArg _ (blind_writeReg _ _ f .written { s with bus := .written })⟩
    · cases h; exact ⟨.error, rfl⟩
  all_goals cases h; exact ⟨_, rfl⟩

/-- Another STATUS and another bus answer before the sequencer's move make no other difference after it. -/
theorem seqMove_reseen {s t : State} (f : StatusFile) (r : BusResp) (h : seqMove s = .next t) :
    ∃ g, seqMove (reseen f r s) = .next (reseen g r t) := by
  obtain ⟨hen, rfl⟩ | ⟨hen, hspc, rfl⟩ | ⟨hen, hspc, b, i, hframe, hdec, hexec⟩ := seqMove_cases h
  · exact ⟨f, seqMove_disabled (s := reseen f r t) hen⟩
  · exact ⟨f, (seqMove_label (s := reseen f r s) hen hspc).trans (congrArg _ (blind_labelStep f r s))⟩
  · have hrun : ∀ u, exec i u = .next (sendFrame b u) := exec_frame (encode_of_decodeFrame hdec)
    rw [hrun] at hexec
    cases hexec
    obtain ⟨g, hg⟩ := sendFrame_reseen b f r s
    exact ⟨g, ((seqMove_frame (s := reseen f r s) hen hspc hframe hdec).trans (hrun _)).trans (congrArg _ hg)⟩

/-- Settles O59: every move's operation is blind, but for the byte a transfer latches, what a read puts on the bus, and
block reset, which leave other status registers or another answer and nothing else. -/
theorem statusNeverSteers : Obligations.StatusNeverSteers := by
  intro s t f r hstep
  change ∃ g r', step (reseen f r s) = .next (reseen g r' t)
  have hmove : ∀ {m}, nextMove s = m → step (reseen f r s) = runMove m (reseen f r (takeMove s)) := by
    rintro m rfl
    rw [← blind_takeMove]
    rfl
  cases hm : nextMove s <;> rw [step_of_move hm] at hstep <;> rw [hmove hm]
  case host a =>
    cases hend : (takeMove s).env.hostEnded with
    | true =>
      rw [runMove, hostTurn_ended a hend] at hstep
      cases hstep
      exact ⟨f, r, hostTurn_ended (s := reseen f r (takeMove s)) a hend⟩
    | false =>
      rw [runMove, hostTurn_open a hend] at hstep
      obtain ⟨r', hr⟩ := hostMove_reseen f r hstep
      exact ⟨f, r', (hostTurn_open (s := reseen f r (takeMove s)) a hend).trans hr⟩
  case seq =>
    obtain ⟨g, hg⟩ := seqMove_reseen f r hstep
    exact ⟨g, r, hg⟩
  case clock =>
    cases hstep
    exact ⟨f, r, congrArg _ (blind_delayTick f r _)⟩
  case rst level =>
    cases hstep
    cases level with
    | true => exact ⟨f, r, rfl⟩
    | false => exact ⟨StatusFile.reset, r, rfl⟩
  all_goals
    cases hstep
    exact ⟨f, r, rfl⟩

end Sys2Proof.Proofs
end

section
/-! SUPPORT. Runs of several steps, and what a frame answered `Success` does from X_SEL to X_NEXT (43_bringup_fsm R253,
41_transport_and_lines R181). -/

namespace Sys2Proof.Proofs

open Sys2Proof.Machine Sys2Proof.Safety Sys2Proof.Claims

/-! ### Runs -/

theorem runSteps_succ {n : Nat} {s u : State} (hstep : step s = .next u) : runSteps (n + 1) s = runSteps n u := by
  rw [runSteps, hstep]

/-- A run is a step and the rest of the run. -/
theorem runSteps_of_step {n : Nat} {s u t : State} (hstep : step s = .next u) (hrest : runSteps n u = some t) :
    runSteps (n + 1) s = some t :=
  (runSteps_succ hstep).trans hrest

/-- A run goes on from where it has come to. -/
theorem runSteps_add {m n : Nat} {s u : State} (hfirst : runSteps m s = some u) :
    runSteps (m + n) s = runSteps n u := by
  induction m generalizing s with
  | zero => cases hfirst; rw [Nat.zero_add]
  | succ m ih =>
    rw [Nat.succ_add]
    cases hstep : step s with
    | next t =>
      rw [runSteps_succ hstep] at hfirst ⊢
      exact ih hfirst
    | fault f | refused r => simp [runSteps, hstep] at hfirst

/-- The sequencer moves next, in an operation, out of block reset. -/
theorem scheduled_of_cons {l : Label} {s : State} {ms : List Move} (hmoves : s.env.moves = .seq :: ms)
    (hrst : s.env.rstN = true) (hbusy : s.stat.busy = true) (hspc : s.seq.spc = l) : Scheduled l s :=
  ⟨nextMove_of_cons hmoves, hrst, hbusy, hspc⟩

/-- The planned step of a label that has no wait and is not X_XFER (43_bringup_fsm R250). -/
theorem step_of_planned {l : Label} {s : State} {f : State → State} {ms : List Move} (hmoves : s.env.moves = .seq :: ms)
    (hrst : s.env.rstN = true) (hbusy : s.stat.busy = true) (hspc : s.seq.spc = l)
    (hwait : waitOf s.params s.cfg0 l = none) (hne : l ≠ .xXfer)
    (hlabel : ∀ {u : State}, u.seq.spc = l → labelStep u = f u) : step s = .next (f { s with env.moves := ms }) := by
  rw [step_of_no_wait (scheduled_of_cons hmoves hrst hbusy hspc) hwait hne hlabel, takeMove_of_cons hmoves]

/-! ### A transfer answered `Success` -/

/-- `STATUS[0..3]` after the byte `rx` is received while `q` is the register requested (42_command_codec R214). -/
def statusAfter (q : Req) (rx : Byte) (f : StatusFile) : StatusFile :=
  match reqIndex q with
  | some k => statusSet k rx f
  | none => f

/-- `SNAPVALID` after a byte is received while `q` is the register requested (42_command_codec R214). -/
def snapValidAfter (q : Req) (v : BitVec 4) : BitVec 4 :=
  match reqIndex q with
  | some k => snapValidSet k v
  | none => v

/-- Latching a byte reaches STATUS and SNAPVALID only (42_command_codec R214). -/
theorem latchStatus_eq (rx : Byte) (s : State) : latchStatus rx s = { s with
    status := statusAfter s.stat.prevReq rx s.status
    stat.snapValid := snapValidAfter s.stat.prevReq s.stat.snapValid } := by
  unfold latchStatus statusAfter snapValidAfter
  cases reqIndex s.stat.prevReq <;> rfl

/-- The byte goes to the register requested before (42_command_codec R214). -/
theorem statusAfter_reqNumber (k : Fin 4) (rx : Byte) (f : StatusFile) :
    statusAfter (reqNumber k) rx f = statusSet k rx f := by
  rw [statusAfter, reqIndex_eq_some_iff.mpr rfl]

theorem snapValidAfter_reqNumber (k : Fin 4) (v : BitVec 4) : snapValidAfter (reqNumber k) v = snapValidSet k v := by
  rw [snapValidAfter, reqIndex_eq_some_iff.mpr rfl]

theorem statusAfter_statusGet (q : Req) (rx : Byte) (f : StatusFile) (k : Fin 4) :
    statusGet k (statusAfter q rx f) = if q = reqNumber k then rx else statusGet k f := by
  cases hreq : reqIndex q with
  | none => rw [statusAfter, hreq, if_neg (ne_reqNumber_of_reqIndex_none hreq k)]
  | some j =>
    rw [reqIndex_eq_some_iff.mp hreq, statusAfter_reqNumber, statusGet_statusSet]
    exact if_congr (by clear hreq; revert j k; decide) rfl rfl

/-- The step X_XFER whose next planned answer is `Success` (41_transport_and_lines R174, 42_command_codec R214). -/
theorem sendFrame_of_success {b r : Byte} {s : State} {as : List Answer} (hanswers : s.env.answers = ⟨.success, r⟩ :: as) :
    sendFrame b s = { s with
      status := statusAfter s.stat.prevReq r s.status
      stat.snapValid := snapValidAfter s.stat.prevReq s.stat.snapValid
      stat.prevReq := reqOf b
      lastXfer := { tx := b, rx := r, res := .success, valid := true }
      trace := s.trace ++ [(s.env.now, .frame b .success r)]
      seq.lastRes := .success
      seq.spc := .xUnsel
      env.answers := as } := by
  have hnext : nextAnswer b s = ⟨.success, r⟩ := by rw [nextAnswer, hanswers]
  have htaken : takeAnswer s = { s with env.answers := as } := by rw [takeAnswer, hanswers]
  rw [sendFrame_eq, hnext, htaken]
  simp [transferWith, countBusy, pipelineAfter, codecLatch, latchStatus_eq, record, lastXferOf]

/-- The planned step X_XFER, answered `Success` (43_bringup_fsm R253). -/
theorem step_of_success {b r : Byte} {i : Instr} {s : State} {ms : List Move} {as : List Answer}
    (hmoves : s.env.moves = .seq :: ms) (hrst : s.env.rstN = true) (hbusy : s.stat.busy = true)
    (hspc : s.seq.spc = .xXfer) (hframe : s.seq.opList[s.seq.opIdx]? = some b) (hdec : decodeFrame b = .ok i)
    (hanswers : s.env.answers = ⟨.success, r⟩ :: as) : step s = .next { s with
      status := statusAfter s.stat.prevReq r s.status
      stat.snapValid := snapValidAfter s.stat.prevReq s.stat.snapValid
      stat.prevReq := reqOf b
      lastXfer := { tx := b, rx := r, res := .success, valid := true }
      trace := s.trace ++ [(s.env.now, .frame b .success r)]
      seq.lastRes := .success
      seq.spc := .xUnsel
      env.moves := ms
      env.answers := as } := by
  rw [step_of_xXfer (scheduled_of_cons hmoves hrst hbusy hspc) hframe hdec, exec_frame (encode_of_decodeFrame hdec),
    takeMove_of_cons hmoves, sendFrame_of_success (s := { s with env.moves := ms }) hanswers]

theorem stepXResult_of_success {s : State} (h : s.seq.lastRes = .success) :
    stepXResult s = { s with seq.spc := .xNext } := by
  rw [stepXResult, h]
  exact goto_of_no_wait rfl

/-- The planned step X_RESULT after a `Success` (43_bringup_fsm R254). -/
theorem step_of_xResult_success {s : State} {ms : List Move} (hmoves : s.env.moves = .seq :: ms)
    (hrst : s.env.rstN = true) (hbusy : s.stat.busy = true) (hspc : s.seq.spc = .xResult)
    (hres : s.seq.lastRes = .success) : step s = .next { s with seq.spc := .xNext, env.moves := ms } := by
  rw [step_of_planned hmoves hrst hbusy hspc rfl nofun labelStep_of_xResult]
  exact congrArg _ (stepXResult_of_success hres)

/-! ### One frame in its bracket -/

/-- Where the sequencer is with the frames `es` still to send (43_bringup_fsm R253). -/
def labelBefore (es : List (Byte × Byte)) (kind : OpKind) : Label :=
  match es, kind with
  | _ :: _, _ => .xSel
  | [], .bringup => .bCalSel
  | [], .hostop => .hDone

/-- The frames `es`, each with the byte received with it, are about to be sent one after the other: the sequencer makes
five moves a frame, and every answer is `Success`. -/
structure Sending (es : List (Byte × Byte)) (ms : List Move) (as : List Answer) (s : State) : Prop where
  rstN : s.env.rstN = true
  busy : s.stat.busy = true
  spc : s.seq.spc = labelBefore es s.seq.opKind
  attempt : s.seq.attempt = 0
  frames : s.seq.opList.drop s.seq.opIdx = es.map Prod.fst
  decodes : ∀ e ∈ es, ∃ i, decodeFrame e.1 = .ok i
  moves : s.env.moves = List.replicate (5 * es.length) .seq ++ ms
  answers : s.env.answers = es.map (fun e => ⟨.success, e.2⟩) ++ as

/-- The state after the frame `e.1` is sent from X_SEL and answered `Success` with the byte `e.2`. -/
def afterFrame (e : Byte × Byte) (s : State) : State :=
  { s with
    status := statusAfter s.stat.prevReq e.2 s.status
    stat.snapValid := snapValidAfter s.stat.prevReq s.stat.snapValid
    stat.prevReq := reqOf e.1
    stat.retries := 0#4
    stat.cfgStep := if s.seq.opKind = .bringup then BitVec.ofNat 2 s.seq.opIdx else s.stat.cfgStep
    lastXfer := { tx := e.1, rx := e.2, res := .success, valid := true }
    lines.csSel := false
    trace := s.trace ++ stamped s.env.now (bracketEvents e)
    seq.attempt := 0
    seq.opIdx := s.seq.opIdx + 1
    seq.lastRes := .success
    seq.spc :=
      if s.seq.opIdx + 1 < s.seq.opList.length then .xSel
      else if s.seq.opKind = .bringup then .bCalSel else .hDone
    env.moves := s.env.moves.drop 5
    env.answers := s.env.answers.tail }

/-- X_SEL, X_XFER, X_UNSEL, X_RESULT and X_NEXT of a frame answered `Success` (43_bringup_fsm R253). -/
theorem runSteps_afterFrame {e : Byte × Byte} {es : List (Byte × Byte)} {ms : List Move} {as : List Answer} {s : State}
    (h : Sending (e :: es) ms as s) : runSteps 5 s = some (afterFrame e s) := by
  obtain ⟨hrst, hbusy, hspc, hattempt, hframes, hdecodes, hmoves, hanswers⟩ := h
  obtain ⟨i, hdec⟩ := hdecodes e (by simp)
  have hframe : s.seq.opList[s.seq.opIdx]? = some e.1 := by
    rw [← List.head?_drop, hframes]
    rfl
  have hmoves' : s.env.moves = .seq :: .seq :: .seq :: .seq :: .seq :: s.env.moves.drop 5 := by
    rw [hmoves, List.length_cons, Nat.mul_succ, Nat.add_comm, List.replicate_add]
    rfl
  have hanswers' : s.env.answers = ⟨.success, e.2⟩ :: s.env.answers.tail := by rw [hanswers]; rfl
  refine runSteps_of_step (step_of_planned hmoves' hrst hbusy hspc rfl nofun labelStep_of_xSel) ?_
  refine runSteps_of_step (step_of_success rfl hrst hbusy rfl hframe hdec hanswers') ?_
  refine runSteps_of_step (step_of_planned rfl hrst hbusy rfl rfl nofun labelStep_of_xUnsel) ?_
  refine runSteps_of_step (step_of_xResult_success rfl hrst hbusy rfl rfl) ?_
  refine runSteps_of_step (step_of_planned rfl hrst hbusy rfl rfl nofun labelStep_of_xNext) ?_
  simp [runSteps, afterFrame, hattempt, bracketEvents, stamped]

/-! ### The frames of an operation, one after the other -/

/-- The state after the frames `es` are sent and each is answered `Success`. -/
def afterFrames : List (Byte × Byte) → State → State
  | [], s => s
  | e :: es, s => afterFrames es (afterFrame e s)

/-- After a frame the next ones are about to be sent (43_bringup_fsm R253). -/
theorem sending_afterFrame {e : Byte × Byte} {es : List (Byte × Byte)} {ms : List Move} {as : List Answer} {s : State}
    (h : Sending (e :: es) ms as s) : Sending es ms as (afterFrame e s) := by
  have hrest : s.seq.opList.drop (s.seq.opIdx + 1) = es.map Prod.fst := by
    rw [← List.tail_drop, h.frames]
    rfl
  exact {
    rstN := h.rstN
    busy := h.busy
    spc := by
      have hmore : s.seq.opIdx + 1 < s.seq.opList.length ↔ es ≠ [] := by
        rw [← not_le, ← List.drop_eq_nil_iff, hrest, List.map_eq_nil_iff]
      simp only [afterFrame, hmore]
      cases es <;> cases s.seq.opKind <;> rfl
    attempt := rfl
    frames := hrest
    decodes := fun e' he' => h.decodes e' (List.mem_cons_of_mem e he')
    moves := by
      simp only [afterFrame]
      rw [h.moves, List.length_cons, Nat.mul_succ, Nat.add_comm, List.replicate_add]
      rfl
    answers := by
      simp only [afterFrame]
      rw [h.answers]
      rfl }

/-- Five steps a frame (43_bringup_fsm R253). -/
theorem runSteps_afterFrames {es : List (Byte × Byte)} {ms : List Move} {as : List Answer} {s : State}
    (h : Sending es ms as s) :
    runSteps (5 * es.length) s = some (afterFrames es s) ∧ Sending [] ms as (afterFrames es s) := by
  induction es generalizing s with
  | nil => exact ⟨rfl, h⟩
  | cons e es ih =>
    obtain ⟨hrun, hend⟩ := ih (sending_afterFrame h)
    refine ⟨?_, hend⟩
    rw [List.length_cons, Nat.mul_succ, Nat.add_comm, runSteps_add (runSteps_afterFrame h), hrun]
    rfl

/-- What sending frames leaves unchanged, and the events it adds (41_transport_and_lines R181). -/
theorem afterFrames_kept (es : List (Byte × Byte)) (s : State) :
    (afterFrames es s).stat.state = s.stat.state ∧ (afterFrames es s).result = s.result ∧
    (afterFrames es s).cfg0 = s.cfg0 ∧ (afterFrames es s).cfg1 = s.cfg1 ∧ (afterFrames es s).params = s.params ∧
    (afterFrames es s).env.now = s.env.now ∧ (afterFrames es s).seq.opKind = s.seq.opKind ∧
    (afterFrames es s).trace = s.trace ++ stamped s.env.now (es.flatMap bracketEvents) := by
  induction es generalizing s with
  | nil => simp [afterFrames, stamped]
  | cons e es ih =>
    obtain ⟨hstate, hresult, hcfg0, hcfg1, hparams, hnow, hkind, htrace⟩ := ih (afterFrame e s)
    refine ⟨hstate, hresult, hcfg0, hcfg1, hparams, hnow, hkind, ?_⟩
    rw [afterFrames, htrace]
    simp [afterFrame, stamped]

/-- After the last frame CS is deselected and no `Busy` is counted (43_bringup_fsm R253). -/
theorem afterFrames_of_ne_nil {es : List (Byte × Byte)} (hne : es ≠ []) (s : State) :
    (afterFrames es s).lines = { s.lines with csSel := false } ∧ (afterFrames es s).stat.retries = 0#4 := by
  induction es generalizing s with
  | nil => exact absurd rfl hne
  | cons e es ih =>
    cases es with
    | nil => exact ⟨rfl, rfl⟩
    | cons e' es => exact ih (by simp) (afterFrame e s)

end Sys2Proof.Proofs
end

section
/-! SUPPORT. The service operations as runs (44_host_operations R305 to R309): the CTRL write, the frames, and H_DONE. -/

namespace Sys2Proof.Proofs

open Sys2Proof.Machine Sys2Proof.Safety Sys2Proof.Claims

/-- A service operation that `Active` accepts encodes to its word, has frames that SEND accepts, and starts them
(44_host_operations R305 to R307). -/
theorem exec_of_serviceSpec {i : Instr} {w : Word} {frames : List Byte} (hspec : serviceSpec i = some (w, frames)) :
    encode i = .ctrl w ∧ frames ≠ [] ∧ serviceFrames frames = true ∧
    ∀ s : State, s.stat.busy = false → s.stat.state = .active →
      exec i s = .next (startHostFrames frames (record (.host (ctrlOp w) (ctrlArg w)) s)) := by
  cases i
  case send b =>
    simp only [serviceSpec, Option.ite_none_right_eq_some, Option.some.injEq, Prod.mk.injEq] at hspec
    obtain ⟨hallow, rfl, rfl⟩ := hspec
    rw [← sendAccepts_eq_sendAllowed] at hallow
    refine ⟨rfl, by simp, by simpa [serviceFrames] using hallow, fun s hidle hstate => ?_⟩
    rw [ctrlOp_ctrlOf, ctrlArg_ctrlOf]
    refine congrArg _ ((acceptCtrl_onlyActive_active hidle hstate).trans ?_)
    exact if_pos hallow
  case readStatus n hi =>
    simp only [serviceSpec, Option.ite_none_right_eq_some, Option.some.injEq, Prod.mk.injEq] at hspec
    obtain ⟨hzero, rfl, rfl⟩ := hspec
    rw [← readStatusFrames_eq]
    refine ⟨rfl, by simp [readStatusFrames], serviceFrames_readStatus n, fun s hidle hstate => ?_⟩
    rw [ctrlOp_ctrlOf, ctrlArg_ctrlOf]
    refine congrArg _ ((acceptCtrl_onlyActive_active hidle hstate).trans ?_)
    exact if_pos hzero
  case clearFaults c0 c1 =>
    cases hspec
    rw [← clearFaultsFrames_eq]
    refine ⟨rfl, by simp [clearFaultsFrames], serviceFrames_clearFaults c0 c1, fun s hidle hstate => ?_⟩
    rw [ctrlOp_ctrlOf, ctrlArg_ctrlOf]
    exact congrArg _ (acceptCtrl_onlyActive_active hidle hstate)
  all_goals cases hspec

/-- The state once the CTRL write `w` has started the frames of a service operation. -/
def serviceStarted (w : Word) (frames : List Byte) (s : State) : State :=
  startHostFrames frames (record (.host (ctrlOp w) (ctrlArg w)) { takeMove s with bus := .written })

/-- What the start of a service operation leaves unchanged, and its event (44_host_operations R300). -/
theorem serviceStarted_kept (w : Word) (frames : List Byte) (s : State) :
    (serviceStarted w frames s).stat = { s.stat with busy := true } ∧
    (serviceStarted w frames s).lines = s.lines ∧ (serviceStarted w frames s).status = s.status ∧
    (serviceStarted w frames s).cfg0 = s.cfg0 ∧ (serviceStarted w frames s).cfg1 = s.cfg1 ∧
    (serviceStarted w frames s).env.now = s.env.now ∧
    (serviceStarted w frames s).trace =
      s.trace ++ stamped s.env.now [.host (w.extractLsb' 0 3) (w.extractLsb' 8 8)] := by
  simp [serviceStarted, startHostFrames_eq, stamped, ctrlOp, ctrlArg]

/-- The steps of a service operation are planned, and every answer is `Success` (44_host_operations R305 to R309). -/
structure ServicePlanned (w : Word) (es : List (Byte × Byte)) (ms : List Move) (as : List Answer) (s : State) : Prop where
  rstN : s.env.rstN = true
  hostOpen : s.env.hostEnded = false
  idle : s.stat.busy = false
  active : s.stat.state = .active
  moves : s.env.moves = .host (.write s.params.baseAddr 4 w) :: (List.replicate (5 * es.length + 1) .seq ++ ms)
  answers : s.env.answers = es.map (fun e => ⟨.success, e.2⟩) ++ as

/-- The CTRL write starts the frames (44_host_operations R305 to R307). -/
theorem step_serviceStarted {i : Instr} {w : Word} {es : List (Byte × Byte)} {ms : List Move} {as : List Answer} {s : State}
    (hspec : serviceSpec i = some (w, es.map Prod.fst)) (hplan : ServicePlanned w es ms as s) :
    step s = .next (serviceStarted w (es.map Prod.fst) s) := by
  obtain ⟨hencode, -, -, hexec⟩ := exec_of_serviceSpec hspec
  rw [step_of_hostWrites_decoded ⟨nextMove_of_cons hplan.moves, hplan.rstN, hplan.hostOpen⟩
    (decodeCtrl_of_encode hencode)]
  exact hexec _ (by simpa using hplan.idle) (by simpa using hplan.active)

/-- The frames of a service operation are then about to be sent. -/
theorem sending_serviceStarted {i : Instr} {w : Word} {es : List (Byte × Byte)} {ms : List Move} {as : List Answer}
    {s : State} (hspec : serviceSpec i = some (w, es.map Prod.fst)) (hplan : ServicePlanned w es ms as s) :
    Sending es (.seq :: ms) as (serviceStarted w (es.map Prod.fst) s) := by
  obtain ⟨-, hne, hframes, -⟩ := exec_of_serviceSpec hspec
  rw [serviceStarted, takeMove_of_cons hplan.moves, startHostFrames_eq]
  refine ⟨hplan.rstN, rfl, ?_, rfl, rfl, fun e he => ?_, ?_, hplan.answers⟩
  · cases es with
    | nil => exact absurd rfl hne
    | cons e es => rfl
  · simp only [serviceFrames, List.all_eq_true] at hframes
    exact decodeFrame_of_sendAccepts (hframes e.1 (List.mem_map_of_mem he))
  · simp [List.replicate_add]

/-- H_DONE ends the operation with `Success` (44_host_operations R309). -/
theorem labelStep_eq_finish {s : State} (h : s.seq.spc = .hDone) : labelStep s = finish .success s := by
  rw [labelStep, h]
  rfl

/-- A service operation run to its end: the CTRL write, its frames, and H_DONE (44_host_operations R305 to R309). -/
theorem runSteps_service {i : Instr} {w : Word} {es : List (Byte × Byte)} {ms : List Move} {as : List Answer} {s : State}
    (hspec : serviceSpec i = some (w, es.map Prod.fst)) (hplan : ServicePlanned w es ms as s) :
    runSteps (5 * es.length + 2) s =
      some (finish .success { afterFrames es (serviceStarted w (es.map Prod.fst) s) with env.moves := ms }) ∧
    (afterFrames es (serviceStarted w (es.map Prod.fst) s)).env.answers = as := by
  obtain ⟨hrun, hend⟩ := runSteps_afterFrames (sending_serviceStarted hspec hplan)
  obtain ⟨-, -, -, -, -, -, hkind, -⟩ := afterFrames_kept es (serviceStarted w (es.map Prod.fst) s)
  have hspc : (afterFrames es (serviceStarted w (es.map Prod.fst) s)).seq.spc = .hDone := by
    rw [hend.spc, hkind, serviceStarted, startHostFrames_eq]
    rfl
  refine ⟨runSteps_of_step (step_serviceStarted hspec hplan) ?_, hend.answers⟩
  rw [runSteps_add hrun]
  exact runSteps_of_step (step_of_planned hend.moves hend.rstN hend.busy hspc rfl nofun labelStep_eq_finish) rfl

/-- Settles O22: the run's end is known from what sending frames changes; the frames and the bytes received come as one
list of pairs. -/
theorem serviceOperationsComplete : Obligations.ServiceOperationsComplete := by
  intro i w frames rs moves answers s hspec hlength hrst hopen hidle hstate hmoves hanswers
  obtain ⟨es, rfl, rfl⟩ : ∃ es : List (Byte × Byte), es.map Prod.fst = frames ∧ es.map Prod.snd = rs :=
    ⟨frames.zip rs, List.map_fst_zip hlength.ge, List.map_snd_zip hlength.le⟩
  obtain ⟨-, hne, -, -⟩ := exec_of_serviceSpec hspec
  have hplan : ServicePlanned w es moves answers s :=
    ⟨hrst, hopen, hidle, hstate, by simpa using hmoves, by simpa [Function.comp_def] using hanswers⟩
  obtain ⟨hrun, hanswers'⟩ := runSteps_service hspec hplan
  obtain ⟨hstate', -, hcfg0, hcfg1, -, hnow, -, htrace⟩ := afterFrames_kept es (serviceStarted w (es.map Prod.fst) s)
  obtain ⟨hlines, hretries⟩ := afterFrames_of_ne_nil (by simpa using hne) (serviceStarted w (es.map Prod.fst) s)
  obtain ⟨hstat, hlines₀, -, hcfg0₀, hcfg1₀, hnow₀, htrace₀⟩ := serviceStarted_kept w (es.map Prod.fst) s
  rw [List.length_map]
  refine ⟨_, hrun, ?_, rfl, rfl, hretries, ?_, hcfg0.trans hcfg0₀, hcfg1.trans hcfg1₀, rfl, hanswers', ?_⟩
  · exact hstate'.trans ((congrArg Stat.state hstat).trans hstate)
  · exact hlines.trans (by rw [hlines₀])
  · have hzip : (es.map Prod.fst).zip (es.map Prod.snd) = es := (List.zip_of_prod rfl rfl).symm
    simp only [Adds, hzip, finish_trace, htrace, htrace₀, hnow, hnow₀]
    simp [stamped]

/-- The two frames of READ_STATUS n with the bytes received (44_host_operations R306). -/
def readStatusExchange (n : Fin 4) (r1 r2 : Byte) : List (Byte × Byte) :=
  [((BitVec.ofNat 2 n.val).setWidth 8, r1), (0x00#8, r2)]

/-- The CTRL word of READ_STATUS n, as a number (30_encoding R116). -/
theorem serviceSpec_readStatus (n : Fin 4) (r1 r2 : Byte) :
    serviceSpec (.readStatus (BitVec.ofNat 2 n.val) 0#6) =
      some (BitVec.ofNat 32 (n.val * 0x100 + 4), (readStatusExchange n r1 r2).map Prod.fst) := by
  have hword : ∀ n : Fin 4, ctrlOf 4#3 (0#6 ++ BitVec.ofNat 2 n.val) = BitVec.ofNat 32 (n.val * 0x100 + 4) := by decide
  rw [serviceSpec, if_pos rfl, hword]
  rfl

/-- NULLn requests register n (42_command_codec R215). -/
theorem reqOf_null : ∀ n : Fin 4, reqOf ((BitVec.ofNat 2 n.val).setWidth 8) = reqNumber n := by decide

/-- The first byte goes to the register requested before, the second to register n (42_command_codec R214). -/
theorem afterFrames_readStatus (n : Fin 4) (r1 r2 : Byte) (s : State) :
    (afterFrames (readStatusExchange n r1 r2) s).status = statusSet n r2 (statusAfter s.stat.prevReq r1 s.status) ∧
    (afterFrames (readStatusExchange n r1 r2) s).stat.snapValid =
      snapValidSet n (snapValidAfter s.stat.prevReq s.stat.snapValid) ∧
    (afterFrames (readStatusExchange n r1 r2) s).stat.prevReq = .s0 := by
  refine ⟨?_, ?_, rfl⟩
  · rw [← statusAfter_reqNumber, ← reqOf_null]
    rfl
  · rw [← snapValidAfter_reqNumber, ← reqOf_null]
    rfl

/-- Settles O23: the end of the run of READ_STATUS, whose two bytes are latched one after the other. -/
theorem readStatusFetchesRegister : Obligations.ReadStatusFetchesRegister := by
  intro n r1 r2 moves answers s hrst hopen hidle hstate hmoves hanswers
  have hplan : ServicePlanned (BitVec.ofNat 32 (n.val * 0x100 + 4)) (readStatusExchange n r1 r2) moves answers s :=
    ⟨hrst, hopen, hidle, hstate, hmoves, hanswers⟩
  obtain ⟨hrun, -⟩ := runSteps_service (serviceSpec_readStatus n r1 r2) hplan
  obtain ⟨hstatus, hsnap, hprev⟩ := afterFrames_readStatus n r1 r2
    (serviceStarted (BitVec.ofNat 32 (n.val * 0x100 + 4)) ((readStatusExchange n r1 r2).map Prod.fst) s)
  obtain ⟨hstat, -, hstatus₀, -⟩ := serviceStarted_kept (BitVec.ofNat 32 (n.val * 0x100 + 4))
    ((readStatusExchange n r1 r2).map Prod.fst) s
  refine ⟨_, hrun, rfl, rfl, ?_, ?_, hprev, fun k hk => ?_⟩
  · refine (congrArg (statusGet n) hstatus).trans ?_
    rw [statusGet_statusSet, if_pos rfl]
  · refine (congrArg (BitVec.getLsbD · n.val) hsnap).trans ?_
    simpa using (snapValidSet_getLsbD n n _).mpr (.inr rfl)
  · refine (congrArg (statusGet k) hstatus).trans ?_
    rw [statusGet_statusSet, if_neg hk.symm, statusAfter_statusGet, hstat, hstatus₀]

end Sys2Proof.Proofs
end

section
/-! SUPPORT. The bring-up at its earliest, up to its transfers (43_bringup_fsm R255 to R262): each wait is given exactly its
duration. -/

namespace Sys2Proof.Proofs

open Sys2Proof.Machine Sys2Proof.Safety Sys2Proof.Claims

/-! ### The frames among the events of a run -/

/-- From `s` to `t` the trace grows by events whose frames are `fs`. -/
def GrowsBy (fs : List Event) (s t : State) : Prop := ∃ more, t.trace = s.trace ++ more ∧ framesIn more = fs

theorem growsBy_trans {fs gs : List Event} {s t u : State} (hst : GrowsBy fs s t) (htu : GrowsBy gs t u) :
    GrowsBy (fs ++ gs) s u := by
  obtain ⟨more, hmore, rfl⟩ := hst
  obtain ⟨rest, hrest, rfl⟩ := htu
  exact ⟨more ++ rest, by rw [hrest, hmore, List.append_assoc], framesIn_append more rest⟩

/-- No labelled step but X_XFER's adds a frame (43_bringup_fsm R253 to R266). -/
theorem growsBy_labelStep (s : State) : GrowsBy [] s (labelStep s) := by
  obtain ⟨-, -, -, es, hadds, -⟩ := kept_of_acts (acts_labelStep s)
  refine ⟨stamped s.env.now es, hadds, ?_⟩
  have hframes := framesIn_labelStep s
  rw [hadds, framesIn_append] at hframes
  exact List.append_right_eq_self.mp hframes

/-! ### One wait -/

/-- The state after `d` ns have passed, with the moves `ms` to come. -/
def later (d : Nat) (ms : List Move) (s : State) : State := { s with env.now := s.env.now + d, env.moves := ms }

/-- The label's wait has just begun (40_wait_service R150). -/
def WaitBegun (s : State) : Prop :=
  ∀ d, waitOf s.params s.cfg0 s.seq.spc = some d → s.seq.waitStart = s.env.now ∧ s.seq.waitD = d

theorem waitBegun_goto (l : Label) (s : State) : WaitBegun (goto l s) := by
  intro d hwait
  rw [goto_seq_spc, goto_params, goto_cfg0] at hwait
  obtain ⟨hd, hstart⟩ := goto_wait hwait
  exact ⟨by rw [hstart, goto_env], hd⟩

/-- A wait that is given exactly its duration, and then the label's step (40_wait_service R150). -/
theorem runSteps_wait {d : Nat} {s : State} {ms : List Move} (hmoves : s.env.moves = .advance d :: .seq :: ms)
    (hrst : s.env.rstN = true) (hbusy : s.stat.busy = true) (hbegun : WaitBegun s)
    (hwait : waitOf s.params s.cfg0 s.seq.spc = some d) : runSteps 2 s = some (labelStep (later d ms s)) := by
  obtain ⟨hstart, hd⟩ := hbegun d hwait
  have hadvance : step s = .next (later d (.seq :: ms) s) := by
    rw [step_of_move (nextMove_of_cons hmoves), takeMove_of_cons hmoves]
    rfl
  have hover : s.seq.waitStart + s.seq.waitD ≤ s.env.now + d := by rw [hstart, hd]
  have hstep := step_of_wait_over (s := later d (.seq :: ms) s) (scheduled_of_cons rfl hrst hbusy rfl) hwait hover
  rw [takeMove_of_cons rfl] at hstep
  exact runSteps_of_step hadvance (runSteps_of_step hstep rfl)

/-! ### The bring-up up to its transfers -/

/-- A bring-up that was started in `s₀`, `elapsed` ns before, has come to the label `l` and has the moves `ms` to come. -/
structure Underway (s₀ s : State) (l : Label) (elapsed : Nat) (ms : List Move) : Prop where
  rstN : s.env.rstN = true
  busy : s.stat.busy = true
  spc : s.seq.spc = l
  begun : WaitBegun s
  lines : s.lines = levelsAt l
  params : s.params = s₀.params
  cfg0 : s.cfg0 = s₀.cfg0
  status : s.status = s₀.status
  prevReq : s.stat.prevReq = .noReq
  snapValid : s.stat.snapValid = 0#4
  now : s.env.now = s₀.env.now + elapsed
  moves : s.env.moves = ms
  answers : s.env.answers = s₀.env.answers
  grows : GrowsBy [] s₀ s

/-- A wait of the bring-up and its label's step (43_bringup_fsm R256 to R262). -/
theorem underway_labelStep {k l : Label} {g : State → State} {s₀ s : State} {d e : Nat} {ms : List Move}
    (h : Underway s₀ s k e (.advance d :: .seq :: ms))
    (hlabel : ∀ {u : State}, u.seq.spc = k → labelStep u = goto l (g u)) (hworks : ∀ u, Works u (g u))
    (hlines : ∀ u : State, u.lines = levelsAt k → (g u).lines = levelsAt l) :
    Underway s₀ (labelStep (later d ms s)) l (e + d) ms := by
  have hgrows : GrowsBy [] s₀ (labelStep (later d ms s)) := growsBy_trans h.grows (growsBy_labelStep (later d ms s))
  have hkept := operates_trans (hworks (later d ms s)).toOperates (operates_goto l (g (later d ms s)))
  rw [hlabel (u := later d ms s) h.spc] at hgrows ⊢
  exact {
    rstN := by rw [hkept.env]; exact h.rstN
    busy := by rw [goto_stat, (hworks _).busy]; exact h.busy
    spc := goto_seq_spc l _
    begun := waitBegun_goto l _
    lines := by rw [goto_lines]; exact hlines _ h.lines
    params := hkept.params.trans h.params
    cfg0 := hkept.cfg0.trans h.cfg0
    status := hkept.status.trans h.status
    prevReq := hkept.prevReq.trans h.prevReq
    snapValid := hkept.snapValid.trans h.snapValid
    now := by rw [hkept.env, ← Nat.add_assoc, ← h.now]; rfl
    moves := by rw [hkept.env]; rfl
    answers := by rw [hkept.env]; exact h.answers
    grows := hgrows }

theorem runSteps_underway {k : Label} {s₀ s : State} {d e : Nat} {ms : List Move}
    (h : Underway s₀ s k e (.advance d :: .seq :: ms)) (hwait : waitOf s₀.params s₀.cfg0 k = some d) :
    runSteps 2 s = some (labelStep (later d ms s)) :=
  runSteps_wait h.moves h.rstN h.busy h.begun (by rw [h.params, h.cfg0, h.spc, hwait])

/-- The two moves of a wait label bring the bring-up to the next label (43_bringup_fsm R256 to R262). -/
theorem underway_of_wait {k l : Label} {g : State → State} {n d e : Nat} {s₀ : State} {ms : List Move}
    (h : ∃ s, runSteps n s₀ = some s ∧ Underway s₀ s k e (.advance d :: .seq :: ms))
    (hwait : waitOf s₀.params s₀.cfg0 k = some d)
    (hlabel : ∀ {u : State}, u.seq.spc = k → labelStep u = goto l (g u)) (hworks : ∀ u, Works u (g u))
    (hlines : ∀ u : State, u.lines = levelsAt k → (g u).lines = levelsAt l) :
    ∃ t, runSteps (n + 2) s₀ = some t ∧ Underway s₀ t l (e + d) ms := by
  obtain ⟨s, hrun, hs⟩ := h
  exact ⟨labelStep (later d ms s), (runSteps_add hrun).trans (runSteps_underway hs hwait),
    underway_labelStep hs hlabel hworks hlines⟩

/-- The moves that follow the four transfers of a bring-up (43_bringup_fsm R264 to R266). -/
def calMoves (p : Params) (c : Word) : List Move :=
  if cfgDeadtime c = 0#16 then [.seq] else [.advance (p.calFactor * (cfgDeadtime c).toNat), .seq, .seq]

/-- The state once INIT is accepted, with the moves `ms` to come (44_host_operations R302). -/
def bringUpStarted (ms : List Move) (s : State) : State :=
  { s with
    bus := .written
    stat.state := .poweredOff
    stat.busy := true
    seq.opKind := .bringup
    seq.spc := .bRstAssert
    trace := s.trace ++ stamped s.env.now [.host 1#3 0#8, .state .poweredOff]
    env.moves := ms }

theorem step_bringUpStarted {s : State} {ms : List Move} (hrst : s.env.rstN = true) (hopen : s.env.hostEnded = false)
    (hidle : s.stat.busy = false) (hdt : (cfgDeadtime s.cfg0).toNat ≤ s.params.dtMaxNs) (hpin : s.env.pinmapOk = true)
    (hmoves : s.env.moves = .host (.write s.params.baseAddr 4 1#32) :: ms) : step s = .next (bringUpStarted ms s) := by
  have hdec : decodeCtrl 1#32 = .ok (.init 0#8) := rfl
  rw [step_of_hostWrites_decoded ⟨nextMove_of_cons hmoves, hrst, hopen⟩ hdec, takeMove_of_cons hmoves]
  exact initStartsBringUp 0#8 _ hidle hdt hpin

theorem length_bringUpMoves (p : Params) (c : Word) :
    (bringUpMoves p c).length = 12 + 2 + (5 * 4 + ((calMoves p c).length + 1)) := by
  rw [bringUpMoves, List.length_append, List.length_append, List.length_replicate, ← calMoves]
  simp only [List.length_cons, List.length_nil]
  omega

/-- INIT and B_RST_ASSERT (44_host_operations R302, 43_bringup_fsm R255). -/
theorem underway_bRstWait {s : State} {ms : List Move} (hrst : s.env.rstN = true) (hopen : s.env.hostEnded = false)
    (hidle : s.stat.busy = false) (hdt : (cfgDeadtime s.cfg0).toNat ≤ s.params.dtMaxNs) (hpin : s.env.pinmapOk = true)
    (hmoves : s.env.moves = .host (.write s.params.baseAddr 4 1#32) :: .seq :: ms) :
    ∃ t, runSteps 2 s = some t ∧ Underway s t .bRstWait 0 ms := by
  have hstep := step_of_planned (s := bringUpStarted (.seq :: ms) s) (ms := ms) rfl hrst rfl rfl rfl nofun
    (f := stepRstAssert) labelStep_of_bRstAssert
  have hgrows : GrowsBy [] s (stepRstAssert (bringUpStarted ms s)) :=
    growsBy_trans (fs := []) ⟨_, rfl, rfl⟩ (growsBy_labelStep (bringUpStarted ms s))
  refine ⟨stepRstAssert (bringUpStarted ms s),
    runSteps_of_step (step_bringUpStarted hrst hopen hidle hdt hpin hmoves) (runSteps_of_step hstep rfl), ?_⟩
  exact {
    rstN := hrst
    busy := rfl
    spc := rfl
    begun := waitBegun_goto .bRstWait _
    lines := rfl
    params := rfl
    cfg0 := rfl
    status := rfl
    prevReq := rfl
    snapValid := rfl
    now := rfl
    moves := rfl
    answers := rfl
    grows := hgrows }

/-- INIT and the first five waits (43_bringup_fsm R255 to R260). -/
theorem underway_bHsHold {s : State} {ms : List Move} (hrst : s.env.rstN = true) (hopen : s.env.hostEnded = false)
    (hidle : s.stat.busy = false) (hdt : (cfgDeadtime s.cfg0).toNat ≤ s.params.dtMaxNs) (hpin : s.env.pinmapOk = true)
    (hmoves : s.env.moves = bringUpMoves s.params s.cfg0 ++ ms) :
    ∃ t, runSteps 12 s = some t ∧ Underway s t .bHsHold
      (s.params.tRstNs + s.params.tRstToEnNs + s.params.tEn1ToEn2Ns + s.params.tEnNs + s.params.tLsHoldNs)
      (.advance (tHs s.params (cfgDeadtime s.cfg0).toNat) :: .seq ::
        (List.replicate 21 .seq ++ (calMoves s.params s.cfg0 ++ ms))) := by
  have hmoves' : s.env.moves = .host (.write s.params.baseAddr 4 1#32) :: .seq ::
      .advance s.params.tRstNs :: .seq :: .advance s.params.tRstToEnNs :: .seq ::
      .advance s.params.tEn1ToEn2Ns :: .seq :: .advance s.params.tEnNs :: .seq ::
      .advance s.params.tLsHoldNs :: .seq :: .advance (tHs s.params (cfgDeadtime s.cfg0).toNat) :: .seq ::
      (List.replicate 21 .seq ++ (calMoves s.params s.cfg0 ++ ms)) := by
    rw [hmoves, bringUpMoves, List.append_assoc, List.append_assoc]
    rfl
  have hwait := underway_bRstWait hrst hopen hidle hdt hpin hmoves'
  have hen1 := underway_of_wait hwait rfl labelStep_of_bRstWait
    (fun u => works_trans (works_line .rst false u) (works_setState _ _)) (fun _ => congrArg (setLine .rst false))
  have hen2 := underway_of_wait hen1 rfl labelStep_of_bEn1 (works_line .en1 true)
    (fun _ => congrArg (setLine .en1 true))
  have henWait := underway_of_wait hen2 rfl labelStep_of_bEn2 (works_line .en2 true)
    (fun _ => congrArg (setLine .en2 true))
  have hlsHold := underway_of_wait henWait rfl labelStep_of_bEnWait
    (fun u => works_trans (works_setState _ u) (works_line .ls true _)) (fun _ => congrArg (setLine .ls true))
  have hhsHold := underway_of_wait hlsHold rfl labelStep_of_bLsHold
    (fun u => works_trans (works_trans (works_line .ls false u) (works_setState _ _)) (works_line .hs true _))
    (fun _ => congrArg fun b => setLine .hs true (setLine .ls false b))
  simpa using hhsHold

/-! ### The transfers of the bring-up -/

/-- The configuration frames with the bytes received (43_bringup_fsm R263). -/
def cfgExchange (p : Params) (c : Word) (a0 a1 a2 a3 : Byte) : List (Byte × Byte) :=
  (cfgFrames p c).zip [a0, a1, a2, a3]

theorem labelStep_eq_goto_hsHeld {s : State} (h : s.seq.spc = .bHsHold) : labelStep s = goto .xSel (hsHeld s) := by
  rw [labelStep, h]
  rfl

/-- The last wait before the transfers (43_bringup_fsm R262). -/
theorem underway_xSel {n e : Nat} {s₀ : State} {ms : List Move} (h : ∃ s, runSteps n s₀ = some s ∧
      Underway s₀ s .bHsHold e (.advance (tHs s₀.params (cfgDeadtime s₀.cfg0).toNat) :: .seq :: ms)) :
    ∃ t, runSteps (n + 2) s₀ = some t ∧ Underway s₀ t .xSel (e + tHs s₀.params (cfgDeadtime s₀.cfg0).toNat) ms ∧
      t.seq.opList = cfgFrames s₀.params s₀.cfg0 ∧ t.seq.opIdx = 0 ∧ t.seq.attempt = 0 ∧ t.seq.opKind = .bringup := by
  obtain ⟨s, hrun, hs⟩ := h
  refine ⟨labelStep (later (tHs s₀.params (cfgDeadtime s₀.cfg0).toNat) ms s),
    (runSteps_add hrun).trans (runSteps_underway hs rfl),
    underway_labelStep hs labelStep_eq_goto_hsHeld works_hsHeld (fun _ => congrArg (setLine .hs false)), ?_⟩
  rw [labelStep_eq_goto_hsHeld (s := later _ ms s) hs.spc, ← hs.params, ← hs.cfg0]
  exact ⟨rfl, rfl, rfl, rfl⟩

/-- The configuration frames are then about to be sent (43_bringup_fsm R262). -/
theorem sending_cfgExchange {s₀ s : State} {e : Nat} {ms : List Move} {as : List Answer} {a0 a1 a2 a3 : Byte}
    (hwf : s₀.params.wf = true) (h : Underway s₀ s .xSel e (List.replicate 21 .seq ++ ms))
    (hlist : s.seq.opList = cfgFrames s₀.params s₀.cfg0) (hidx : s.seq.opIdx = 0) (hattempt : s.seq.attempt = 0)
    (hanswers : s₀.env.answers = ⟨.success, a0⟩ :: ⟨.success, a1⟩ :: ⟨.success, a2⟩ :: ⟨.success, a3⟩ :: as) :
    Sending (cfgExchange s₀.params s₀.cfg0 a0 a1 a2 a3) (.seq :: ms) as s where
  rstN := h.rstN
  busy := h.busy
  spc := h.spc
  attempt := hattempt
  frames := by
    rw [hlist, hidx]
    rfl
  decodes := fun e he => decodeFrame_of_mem_cfgFrames hwf (List.of_mem_zip he).1
  moves := h.moves
  answers := h.answers.trans hanswers

/-- What the frames of an exchange add to the trace. -/
theorem framesIn_exchange (now : Nat) (es : List (Byte × Byte)) :
    framesIn (stamped now (es.flatMap bracketEvents)) = es.map fun e => Event.frame e.1 .success e.2 := by
  rw [framesIn_stamped]
  induction es with
  | nil => rfl
  | cons e es ih =>
    rw [List.map_cons, ← ih]
    rfl

/-- Every configuration frame requests register 0 (42_command_codec R215). -/
theorem reqOf_cfgFrame : ∀ pl : Nibble, reqOf (frameOf opcMask0 pl) = .s0 ∧ reqOf (frameOf opcMask1 pl) = .s0 ∧
    reqOf (frameOf opcMode pl) = .s0 ∧ reqOf (frameOf opcDeadtime pl) = .s0 := by decide

/-- DEADTIME's byte (30_encoding R114). -/
theorem frameOf_calPayload (c : Word) : frameOf opcDeadtime (calPayload c) = calByte c := by
  unfold calPayload calByte
  split_ifs <;> rfl

theorem statusAfter_noReq (rx : Byte) (f : StatusFile) : statusAfter .noReq rx f = f := rfl

theorem statusAfter_s0 (rx : Byte) (f : StatusFile) : statusAfter .s0 rx f = { f with r0 := rx } := rfl

theorem snapValidAfter_noReq (v : BitVec 4) : snapValidAfter .noReq v = v := rfl

theorem snapValidAfter_s0 (v : BitVec 4) : snapValidAfter .s0 v = v ||| 1#4 := rfl

/-- After the four configuration frames, the first byte discarded, the others are received in register 0
(42_command_codec R214, R215). -/
theorem afterFrames_cfgExchange (p : Params) (c : Word) (a0 a1 a2 a3 : Byte) {s : State}
    (hprev : s.stat.prevReq = .noReq) (hsnap : s.stat.snapValid = 0#4) (hkind : s.seq.opKind = .bringup)
    (hidx : s.seq.opIdx = 0) :
    (afterFrames (cfgExchange p c a0 a1 a2 a3) s).stat = { s.stat with
      cfgStep := 3#2, prevReq := .s0, snapValid := 0b0001#4, retries := 0#4 } ∧
    (afterFrames (cfgExchange p c a0 a1 a2 a3) s).status = { s.status with r0 := a3 } ∧
    (afterFrames (cfgExchange p c a0 a1 a2 a3) s).lastXfer =
      { tx := calByte c, rx := a3, res := .success, valid := true } := by
  obtain ⟨hmask0, -⟩ := reqOf_cfgFrame (cfgMask0 c)
  obtain ⟨-, hmask1, -⟩ := reqOf_cfgFrame (cfgMask1 c)
  obtain ⟨-, -, hmode, -⟩ := reqOf_cfgFrame (modePayload p c)
  obtain ⟨-, -, -, hcal⟩ := reqOf_cfgFrame (calPayload c)
  rw [frameOf_calPayload] at hcal
  simp [cfgExchange, cfgFrames, afterFrames, afterFrame, frameOf_calPayload, hmask0, hmask1, hmode, hcal, hprev, hsnap,
    hkind, hidx, statusAfter_noReq, statusAfter_s0, snapValidAfter_noReq, snapValidAfter_s0]

/-! ### The end of the bring-up -/

/-- The bring-up has ended in `Active` with CS deselected, `d` ns after `s`, with no frame sent since and the moves `ms` to
come. -/
def EndsActive (d : Nat) (ms : List Move) (s t : State) : Prop :=
  GrowsBy [] s t ∧ t = { s with
    stat.state := .active
    stat.busy := false
    result := .success
    lines.csSel := false
    seq := t.seq
    trace := t.trace
    env.now := s.env.now + d
    env.moves := ms }

/-- B_DONE ends the bring-up in `Active` (43_bringup_fsm R266). -/
theorem runSteps_bDone {s : State} {ms : List Move} (hrst : s.env.rstN = true) (hbusy : s.stat.busy = true)
    (hspc : s.seq.spc = .bDone) (hcs : s.lines.csSel = false) (hmoves : s.env.moves = .seq :: ms) :
    ∃ t, runSteps 1 s = some t ∧ EndsActive 0 ms s t := by
  refine ⟨_, runSteps_of_step (step_of_planned hmoves hrst hbusy hspc rfl nofun labelStep_of_bDone) rfl,
    ⟨_, rfl, rfl⟩, ?_⟩
  rw [lines_deselected hcs]
  rfl

/-- The end of the calibration pulse and B_DONE (43_bringup_fsm R265, R266). -/
theorem runSteps_bCalHold {s : State} {ms : List Move} (hrst : s.env.rstN = true) (hbusy : s.stat.busy = true)
    (hspc : s.seq.spc = .bCalHold) (hbegun : WaitBegun s)
    (hmoves : s.env.moves = .advance (s.params.calFactor * (cfgDeadtime s.cfg0).toNat) :: .seq :: .seq :: ms) :
    ∃ t, runSteps 3 s = some t ∧ EndsActive (s.params.calFactor * (cfgDeadtime s.cfg0).toNat) ms s t := by
  have hpulse := runSteps_wait hmoves hrst hbusy hbegun (by rw [hspc]; rfl)
  have hgrows := growsBy_labelStep (later (s.params.calFactor * (cfgDeadtime s.cfg0).toNat) (.seq :: ms) s)
  have hlabel := labelStep_of_bCalHold
    (s := later (s.params.calFactor * (cfgDeadtime s.cfg0).toNat) (.seq :: ms) s) hspc
  generalize labelStep (later (s.params.calFactor * (cfgDeadtime s.cfg0).toNat) (.seq :: ms) s) = u
    at hpulse hgrows hlabel
  obtain ⟨t, hrun, hgrows', hend⟩ := runSteps_bDone (s := u) (ms := ms) (by rw [hlabel]; exact hrst)
    (by rw [hlabel]; exact hbusy) (by rw [hlabel]) (by rw [hlabel]) (by rw [hlabel]; rfl)
  rw [hlabel] at hend
  exact ⟨t, (runSteps_add hpulse).trans hrun, growsBy_trans hgrows hgrows', hend⟩

/-- From B_CAL_SEL the bring-up ends in `Active`, a calibration pulse later where a dead time is configured
(43_bringup_fsm R264 to R266). -/
theorem runSteps_bCalSel {s : State} {ms : List Move} (hrst : s.env.rstN = true) (hbusy : s.stat.busy = true)
    (hspc : s.seq.spc = .bCalSel) (hcs : s.lines.csSel = false)
    (hmoves : s.env.moves = .seq :: (calMoves s.params s.cfg0 ++ ms)) :
    ∃ t, runSteps ((calMoves s.params s.cfg0).length + 1) s = some t ∧
      EndsActive (s.params.calFactor * (cfgDeadtime s.cfg0).toNat) ms s t := by
  have hselect : step s = .next (stepCalSel { s with env.moves := calMoves s.params s.cfg0 ++ ms }) :=
    step_of_planned hmoves hrst hbusy hspc rfl nofun labelStep_of_bCalSel
  by_cases hdt : cfgDeadtime s.cfg0 = 0#16
  · have hcal : calMoves s.params s.cfg0 = [.seq] := if_pos hdt
    rw [hcal] at hselect ⊢
    obtain ⟨t, hrun, hgrows, hend⟩ := runSteps_bDone (s := { s with seq.spc := .bDone, env.moves := .seq :: ms })
      hrst hbusy rfl hcs rfl
    refine ⟨t, runSteps_of_step (hselect.trans (congrArg _ (stepCalSel_of_zero hdt))) hrun, hgrows, ?_⟩
    rw [hdt]
    exact hend
  · have hcal : calMoves s.params s.cfg0 = [.advance (s.params.calFactor * (cfgDeadtime s.cfg0).toNat), .seq, .seq] :=
      if_neg hdt
    rw [hcal] at hselect ⊢
    obtain ⟨t, hrun, hgrows, hend⟩ := runSteps_bCalHold
      (s := goto .bCalHold (line .cs true { s with env.moves := [.advance
        (s.params.calFactor * (cfgDeadtime s.cfg0).toNat), .seq, .seq] ++ ms }))
      hrst hbusy rfl (waitBegun_goto _ _) rfl
    exact ⟨t, runSteps_of_step (hselect.trans (congrArg _ (stepCalSel_of_nonzero hdt))) hrun,
      growsBy_trans (fs := []) ⟨_, rfl, rfl⟩ hgrows, hend⟩

/-- Settles O60: INIT and the waits bring the bring-up to its transfers; the four frames are sent; then comes the
calibration pulse, if any, and B_DONE. -/
theorem bringUpReachesActive : Obligations.BringUpReachesActive := by
  intro s a0 a1 a2 a3 moves answers hwf hrst hopen hidle hdt hpin hmoves hanswers
  obtain ⟨u, hrun, hunder, hlist, hidx, hattempt, hkind⟩ :=
    underway_xSel (underway_bHsHold hrst hopen hidle hdt hpin hmoves)
  obtain ⟨hframes, hsent⟩ := runSteps_afterFrames (sending_cfgExchange hwf hunder hlist hidx hattempt hanswers)
  obtain ⟨hstat, hstatus, hlast⟩ := afterFrames_cfgExchange s.params s.cfg0 a0 a1 a2 a3 hunder.prevReq hunder.snapValid
    hkind hidx
  obtain ⟨-, -, hcfg0, -, hparams, hnow, hkind', htrace⟩ :=
    afterFrames_kept (cfgExchange s.params s.cfg0 a0 a1 a2 a3) u
  obtain ⟨hlines, -⟩ := afterFrames_of_ne_nil (es := cfgExchange s.params s.cfg0 a0 a1 a2 a3) nofun u
  generalize afterFrames (cfgExchange s.params s.cfg0 a0 a1 a2 a3) u = v at *
  have hspc : v.seq.spc = .bCalSel := by
    rw [hsent.spc, hkind', hkind]
    rfl
  have hparams' : v.params = s.params := hparams.trans hunder.params
  have hcfg0' : v.cfg0 = s.cfg0 := hcfg0.trans hunder.cfg0
  obtain ⟨t, hend, hgrows, ht⟩ := runSteps_bCalSel (ms := moves) hsent.rstN hsent.busy hspc (by rw [hlines])
    (by rw [hparams', hcfg0']; exact hsent.moves)
  rw [hparams', hcfg0'] at hend ht
  have hstat' : t.stat = { v.stat with state := .active, busy := false } := congrArg State.stat ht
  rw [hstat] at hstat'
  have hlines' : t.lines = { v.lines with csSel := false } := congrArg State.lines ht
  rw [hlines, hunder.lines] at hlines'
  have henv : t.env = { v.env with
      now := v.env.now + s.params.calFactor * (cfgDeadtime s.cfg0).toNat, moves := moves } := congrArg State.env ht
  rw [hnow, hunder.now] at henv
  refine ⟨t, ?_, congrArg Stat.state hstat', congrArg Stat.busy hstat', congrArg State.result ht,
    congrArg Stat.cfgStep hstat', congrArg Stat.prevReq hstat', congrArg Stat.snapValid hstat',
    congrArg Stat.retries hstat', ?_, (congrArg State.lastXfer ht).trans hlast, hlines', ?_, congrArg Env.moves henv,
    (congrArg (fun u => u.env.answers) ht).trans hsent.answers, ?_⟩
  · rw [length_bringUpMoves, runSteps_add hrun]
    exact (runSteps_add hframes).trans hend
  · exact (congrArg State.status ht).trans (hstatus.trans (by rw [hunder.status]))
  · rw [henv, bringUpTime, tHs]
    simp only
    omega
  · have hframesSent : GrowsBy ((cfgExchange s.params s.cfg0 a0 a1 a2 a3).map fun e => Event.frame e.1 .success e.2) u v :=
      ⟨_, htrace, framesIn_exchange _ _⟩
    have hgrows' := growsBy_trans hunder.grows (growsBy_trans hframesSent hgrows)
    rwa [List.nil_append, List.append_nil] at hgrows'

end Sys2Proof.Proofs
end
